-- ==== Sys2Proof/Word.lean ====
section
/-! DEFINITION. The words of the block: bytes and 32-bit register values (spec rule R13). -/

namespace Sys2Proof

/-- A byte: a coefficient, a codeword, a staged character (R43, R45, R141). -/
abbrev Byte := BitVec 8

/-- A 32-bit register value, unsigned unless a rule says signed (R13). -/
abbrev Word := BitVec 32

/-- A byte offset on the host port, 15 bits (R60). -/
abbrev Offset := BitVec 15

/-- A result as a register holds it: `zext_32` of a natural number below 2^32 (R13, R82). -/
def word (n : Nat) : Word := BitVec.ofNat 32 n

/-- The low byte of a register value, `value[7:0]` (R13, R43). -/
def lowByte (w : Word) : Byte := BitVec.ofNat 8 w.toNat

/-- The bit `k` of a register value (R13). -/
def wordBit (w : Word) (k : Nat) : Bool := w.toNat.testBit k

end Sys2Proof
end

