-- ==== Sys2Proof/Config.lean ====
section
/-! DEFINITION. The implementation parameters at the value this hardware takes (spec rule R11), the constant of the
ID register, and the free values: constants with no body, for what the spec leaves unspecified. -/

namespace Sys2Proof.Config

/-- Highest symbol version (R11). -/
def vmax : Nat := 40

/-- Largest module count, `4*VMAX+17` (R11). -/
def nmax : Nat := 4 * vmax + 17

/-- Coefficients per polynomial window A, B, R (R11, D17). -/
def polyMax : Nat := 256

/-- Bit-buffer capacity in bits (R11, D22). -/
def bbMaxBits : Nat := 8192

/-- Segment staging capacity in bytes (R11, D16). -/
def stageMax : Nat := 8192

/-- Segments per symbol (R11, D16). -/
def segMax : Nat := 2048

/-- Total segment bytes per symbol (R11, D16). -/
def segStoreBytes : Nat := 8192

/-- Codeword memory entries (R11, D4). -/
def cwMax : Nat := 4096

/-- Largest RS generator degree accepted by RS_GEN and RS_ENCODE (R11, D21). -/
def genMaxL : Nat := 255

/-- The constant of the ID register, ASCII "QRC7" (R2, R22). -/
def idValue : Word := 0x51524337

/-- DESIGN CHOICE (log entry 3). The unspecified byte a cell of window A or B holds until it is written
(R310, R311, R323, U1): by the number of resets so far and the cell's offset. Nothing is known of it. -/
opaque freeCell : Nat → Nat → BitVec 8

/-- DESIGN CHOICE (log entry 4). The unspecified value of a read while BUSY = 1 (R321, U3): by the number of such
reads so far and the offset read. Nothing is known of it. -/
opaque freeRead : Nat → Nat → BitVec 32

/-- DESIGN CHOICE (log entry 13). Which 32 KiB slot of the host's address map holds the block (R61, U13). -/
opaque qrcSlot : Nat

/-- The block's base address in the host's address map, any multiple of 32 KiB (R61). -/
def qrcBase : Nat := 32768 * qrcSlot

end Sys2Proof.Config
end

