-- ==== Sys2Proof/Syntax.lean ====
section
/-! DEFINITION. The commands of the block: one constructor per row of the opcode table (spec rule R83). A command word
has no operand fields (R80, R82): the operands are registers and windows, read by the meanings. -/

namespace Sys2Proof

/-- The complete command set (R83), in the order of the opcode map. -/
inductive Instr where
  /-- NOP, 0x00 (R264). -/
  | nop
  /-- CREATE, 0x01 (R260): ARG0 version, ARG1 level. -/
  | create
  /-- ADD_DATA, 0x02 (R150): ARG0 mode code, STAGE. -/
  | addData
  /-- MAKE, 0x03 (R261): VERSION_REQ, LEVEL, SEGS. -/
  | make
  /-- IS_DARK, 0x04 (R263): ARG0 row, ARG1 column. -/
  | isDark
  /-- STAGE_CLEAR, 0x05 (R142). -/
  | stageClear
  /-- GF_EXP, 0x10 (R104): ARG0 exponent, signed. -/
  | gfExp
  /-- GF_LOG, 0x11 (R105): ARG0 element. -/
  | gfLog
  /-- GF_MUL, 0x12 (R106): ARG0, ARG1 elements. -/
  | gfMul
  /-- POLY_CONSTRUCT, 0x20 (R115): ARG0 window, ARG1 shift. -/
  | polyConstruct
  /-- POLY_MUL, 0x21 (R118): windows A, B. -/
  | polyMul
  /-- POLY_MOD, 0x22 (R119): windows A, B. -/
  | polyMod
  /-- POLY_MOVE, 0x23 (R120): ARG0 window. -/
  | polyMove
  /-- RS_GEN, 0x24 (R121): ARG0 degree. -/
  | rsGen
  /-- RS_ENCODE, 0x25 (R122): ARG0 EC count, window A. -/
  | rsEncode
  /-- EC_PLAN, 0x30 (R135): ARG0 version, ARG1 level. -/
  | ecPlan
  /-- RAW_MODULES, 0x31 (R136): ARG0 version. -/
  | rawModules
  /-- CCW, 0x32 (R154): ARG0 mode code, ARG1 version. -/
  | ccw
  /-- BB_CLEAR, 0x40 (R171). -/
  | bbClear
  /-- BB_PUT, 0x41 (R174): ARG0 value, ARG1 length. -/
  | bbPut
  /-- BB_PUTBIT, 0x42 (R175): ARG0 bit. -/
  | bbPutbit
  /-- BB_GETBIT, 0x43 (R176): ARG0 index. -/
  | bbGetbit
  /-- RENDER, 0x50 (R246): ARG0 mask, ARG1 test flag. -/
  | render
  /-- PENALTY, 0x51 (R247): GRID. -/
  | penalty
  /-- MASK_EVAL, 0x52 (R248): ARG0 mask, ARG1 row, ARG2 column. -/
  | maskEval
  /-- FORMAT_BITS, 0x53 (R212): ARG0 level, ARG1 mask. -/
  | formatBits
  /-- VERSION_BITS, 0x54 (R213): ARG0 version. -/
  | versionBits
  /-- ALIGN_POS, 0x55 (R214): ARG0 version. -/
  | alignPos
  deriving DecidableEq, Repr

/-- Every command, in the order of the opcode map (R83). -/
def Instr.all : List Instr :=
  [.nop, .create, .addData, .make, .isDark, .stageClear,
   .gfExp, .gfLog, .gfMul,
   .polyConstruct, .polyMul, .polyMod, .polyMove, .rsGen, .rsEncode,
   .ecPlan, .rawModules, .ccw,
   .bbClear, .bbPut, .bbPutbit, .bbGetbit,
   .render, .penalty, .maskEval, .formatBits, .versionBits, .alignPos]

end Sys2Proof
end

