-- ==== Sys2Proof/WellFormed.lean ====
section
/-! DEFINITION. What a well-formed command is. A command has no operand fields, so every term of `Instr` is well formed;
the checks the spec makes on a command are on the 32-bit word (rules R80, R84): its reserved field is zero, and its
opcode is assigned. -/

namespace Sys2Proof

/-- The opcode field `OPC`, bits 7:0 of a command word (R80). -/
def opcField (w : Word) : Nat := w.toNat % 256

/-- The reserved field `RSVD`, bits 31:8 of a command word (R80). -/
def rsvdField (w : Word) : Nat := w.toNat / 256

/-- The opcodes that are rows of the opcode map (R83), as the ranges that rule R84 leaves unreserved. -/
def opcodeAssigned (opc : Nat) : Bool :=
  opc ≤ 0x05 || (0x10 ≤ opc && opc ≤ 0x12) || (0x20 ≤ opc && opc ≤ 0x25) || (0x30 ≤ opc && opc ≤ 0x32) ||
    (0x40 ≤ opc && opc ≤ 0x43) || (0x50 ≤ opc && opc ≤ 0x55)

/-- A command word that names a command: no reserved bit set, an assigned opcode (R80, R84). -/
def wordWellFormed (w : Word) : Bool := rsvdField w == 0 && opcodeAssigned (opcField w)

/-- Every command is well formed: it carries no operand that could be out of range (R82). -/
def Instr.wellFormed : Instr → Bool
  | .nop | .create | .addData | .make | .isDark | .stageClear
  | .gfExp | .gfLog | .gfMul
  | .polyConstruct | .polyMul | .polyMod | .polyMove | .rsGen | .rsEncode
  | .ecPlan | .rawModules | .ccw
  | .bbClear | .bbPut | .bbPutbit | .bbGetbit
  | .render | .penalty | .maskEval | .formatBits | .versionBits | .alignPos => true

end Sys2Proof
end

