-- ==== Sys2Proof/Decode.lean ====
section
/-! DEFINITION. The decoder and the encoder of command words (spec rules R80 to R84), over words and over the bytes of a
word in the bus's byte order (R64). Total on any bytes; it refuses by name. -/

namespace Sys2Proof

/-- Why a word or a list of bytes names no command. The block answers the first two with ILLEGAL_CMD (R80, R84). -/
inductive DecodeError where
  /-- `RSVD ≠ 0` (R80). -/
  | reservedBits
  /-- An opcode that is no row of the map (R84). -/
  | reservedOpcode
  /-- Fewer than the four bytes of a command word (R81): no host access carries this. -/
  | shortWord
  deriving DecidableEq, Repr

/-- The opcode map read from left to right (R83). -/
def opcodeOf (opc : Nat) : Option Instr :=
  match opc with
  | 0x00 => some .nop
  | 0x01 => some .create
  | 0x02 => some .addData
  | 0x03 => some .make
  | 0x04 => some .isDark
  | 0x05 => some .stageClear
  | 0x10 => some .gfExp
  | 0x11 => some .gfLog
  | 0x12 => some .gfMul
  | 0x20 => some .polyConstruct
  | 0x21 => some .polyMul
  | 0x22 => some .polyMod
  | 0x23 => some .polyMove
  | 0x24 => some .rsGen
  | 0x25 => some .rsEncode
  | 0x30 => some .ecPlan
  | 0x31 => some .rawModules
  | 0x32 => some .ccw
  | 0x40 => some .bbClear
  | 0x41 => some .bbPut
  | 0x42 => some .bbPutbit
  | 0x43 => some .bbGetbit
  | 0x50 => some .render
  | 0x51 => some .penalty
  | 0x52 => some .maskEval
  | 0x53 => some .formatBits
  | 0x54 => some .versionBits
  | 0x55 => some .alignPos
  | _ => none

/-- Decoding of a command word (R80): the reserved field first, then the opcode. -/
def decodeWord (w : Word) : Except DecodeError Instr :=
  if rsvdField w ≠ 0 then .error .reservedBits
  else
    match opcodeOf (opcField w) with
    | some i => .ok i
    | none => .error .reservedOpcode

/-- The word on four byte lanes, lane 0 the least significant (R64). -/
def wordOfBytes (b0 b1 b2 b3 : Byte) : Word :=
  BitVec.ofNat 32 (b0.toNat + 256 * b1.toNat + 65536 * b2.toNat + 16777216 * b3.toNat)

/-- The byte lanes of a word, lane 0 first (R64). -/
def bytesOfWord (w : Word) : List Byte :=
  [BitVec.ofNat 8 w.toNat, BitVec.ofNat 8 (w.toNat / 256), BitVec.ofNat 8 (w.toNat / 65536),
   BitVec.ofNat 8 (w.toNat / 16777216)]

/-- Decoding of a list of bytes: one command word (R81: every command is one word) and the rest of the list. -/
def decode : List Byte → Except DecodeError (Instr × List Byte)
  | b0 :: b1 :: b2 :: b3 :: rest =>
    match decodeWord (wordOfBytes b0 b1 b2 b3) with
    | .ok i => .ok (i, rest)
    | .error e => .error e
  | _ => .error .shortWord

/-- The opcode of a command (R83). -/
def opcode : Instr → Nat
  | .nop => 0x00
  | .create => 0x01
  | .addData => 0x02
  | .make => 0x03
  | .isDark => 0x04
  | .stageClear => 0x05
  | .gfExp => 0x10
  | .gfLog => 0x11
  | .gfMul => 0x12
  | .polyConstruct => 0x20
  | .polyMul => 0x21
  | .polyMod => 0x22
  | .polyMove => 0x23
  | .rsGen => 0x24
  | .rsEncode => 0x25
  | .ecPlan => 0x30
  | .rawModules => 0x31
  | .ccw => 0x32
  | .bbClear => 0x40
  | .bbPut => 0x41
  | .bbPutbit => 0x42
  | .bbGetbit => 0x43
  | .render => 0x50
  | .penalty => 0x51
  | .maskEval => 0x52
  | .formatBits => 0x53
  | .versionBits => 0x54
  | .alignPos => 0x55

/-- The command word of a command: its opcode in bits 7:0, zero in bits 31:8 (R80). -/
def encode (i : Instr) : Word := BitVec.ofNat 32 (opcode i)

/-- The bytes of a command word as the bus carries them (R64). -/
def encodeBytes (i : Instr) : List Byte := bytesOfWord (encode i)

/-- The command the decoder reads from a table row's bits `w`, of which the row gives `nbits` (every bit above is 0). -/
def decodeTableWord (nbits w : Nat) : Option Instr :=
  match decode (bytesOfWord (BitVec.ofNat 32 (w % 2 ^ nbits))) with
  | .ok (i, _) => some i
  | .error _ => none

end Sys2Proof
end

