-- ==== Sys2Proof/Machine/State.lean ====
section
/-! DEFINITION. The state of the block (spec rules R20 to R51), plain data, with the state after reset (R50), and the
reasons a step can stop. -/

namespace Sys2Proof.Machine

/-- The symbol state, STATUS.STATE (R24, R47). The code 3 has no constructor: it is never read (R24, U8). -/
inductive SymState where
  | empty
  | pending
  | made
  deriving DecidableEq, Repr

/-- Error codes of STATUS.ERR (R280). Codes 0x0A and above have no constructor: they are never reported (U8). -/
inductive ErrCode where
  | ok
  | domain
  | illegalChar
  | capacity
  | invalidMode
  | invalidLevel
  | outOfBounds
  | illegalCmd
  | storeFull
  | state
  deriving DecidableEq, Repr

/-- Error-correction level, by its code L = 0, M = 1, Q = 2, H = 3 (R30, D12). -/
inductive Level where
  | low
  | medium
  | quartile
  | high
  deriving DecidableEq, Repr

/-- Segment mode, by its code 1, 2, 4, 8 (R140). -/
inductive Mode where
  | numeric
  | alphanumeric
  | byte
  | kanji
  deriving DecidableEq, Repr

/-- A record of SEGS: the mode and the staged bytes the segment was made from (R41). -/
structure Segment where
  mode : Mode
  bytes : List Byte
  deriving DecidableEq, Repr

/-- A module cell (R44). -/
inductive Module where
  | unset
  | light
  | dark
  deriving DecidableEq, Repr

/-- The rows in use of the module grid, row 0 first, column 0 first in each (R44). -/
abbrev Grid := List (List Module)

/-- The cells of windows A and B written since reset, by offset on the port, strictly rising (R21, R43). -/
abbrev Memory := List Host.Cell

/-- Four registers of one kind: ARG0 to ARG3, RES0 to RES3 (R26, R28). -/
structure Quad where
  w0 : Word
  w1 : Word
  w2 : Word
  w3 : Word
  deriving DecidableEq, Repr

/-- Four registers that hold 0. -/
def Quad.zero : Quad := ⟨0, 0, 0, 0⟩

/-- The command the sequencer executes: the accepted CMD word and the cycles until its completion (R282, R330). -/
structure Running where
  cmd : Word
  left : Nat
  deriving DecidableEq, Repr

/-- The size of a host access (R63). -/
inductive AccessSize where
  | byte
  | half
  | word
  deriving DecidableEq, Repr

/-- What the outside does to the block in one bus cycle (R60, R63, R310). -/
inductive HostEvent where
  /-- A read of the given size at an offset of the port. -/
  | read (size : AccessSize) (offset : Offset)
  /-- A write of the given size at an offset of the port. -/
  | write (size : AccessSize) (offset : Offset) (value : Word)
  /-- A cycle with no access. -/
  | idle
  /-- Assertion of the reset input (R310). -/
  | resetPin
  deriving DecidableEq, Repr

/-- The whole state. The first group is the block's (R20); the last five fields are the model's own (INVENTORY.md). -/
structure State where
  /-- CTRL.IRQ_EN (R23). -/
  irqEn : Bool
  /-- STATUS.DONE (R24). -/
  done : Bool
  /-- STATUS.STATE (R24, R47). -/
  symState : SymState
  /-- STATUS.FINAL (R24, R47). -/
  final : Bool
  /-- STATUS.STAGE_OVF (R24, R39). -/
  stageOvf : Bool
  /-- STATUS.CMD_OVF (R24, R320). -/
  cmdOvf : Bool
  /-- STATUS.ERR (R24, R280). -/
  err : ErrCode
  /-- The command in progress; STATUS.BUSY is 1 when there is one (R24, R282). -/
  running : Option Running
  /-- ARG0 to ARG3 (R26). -/
  arg : Quad
  /-- RES0 to RES3 (R28). -/
  res : Quad
  /-- VERSION_REQ (R29). -/
  versionReq : Nat
  /-- LEVEL (R30). -/
  level : Level
  /-- VERSION_EFF (R31). -/
  versionEff : Nat
  /-- MODULE_COUNT (R32). -/
  moduleCount : Nat
  /-- MASK (R33). -/
  mask : Fin 8
  /-- DATA_BITS (R35). -/
  dataBits : Nat
  /-- CW; CW_LEN is its length (R34, R45). -/
  cw : List Byte
  /-- TRIAL_P123[0..7] (R46). -/
  trialP123 : List Nat
  /-- TRIAL_DARK[0..7] (R46). -/
  trialDark : List Nat
  /-- STAGE; STAGE_LEN is its length (R37, R40). -/
  stage : List Byte
  /-- SEGS; SEG_COUNT is its length, SEG_BYTES the total of its bytes (R36, R41). -/
  segs : List Segment
  /-- BB, first bit written first; BB_LEN is its length (R42, R170). -/
  bb : List Bool
  /-- A_LEN (R43). -/
  aLen : Nat
  /-- B_LEN (R43). -/
  bLen : Nat
  /-- The cells of windows A and B (R43). -/
  cells : Memory
  /-- R; R_LEN is its length (R43). -/
  r : List Byte
  /-- GRID, the rows and columns in use (R44). -/
  grid : Grid
  /-- The host events to come, oldest first (R70; log entry 2). -/
  events : List HostEvent
  /-- The word the port returned for the last read (log entry 7). -/
  rdata : Word
  /-- LATENCY minus 1 of each command to come; a command past the list's end has LATENCY 1 (R330; log entry 1). -/
  latencies : List Nat
  /-- The number of resets so far, which names the unspecified contents of A and B (R310; log entry 3). -/
  epoch : Nat
  /-- The number of unspecified reads answered so far (R321; log entry 4). -/
  free : Nat
  deriving DecidableEq, Repr

/-- The state after a hardware reset (R50, R310): the values the spec states; `cells` lists nothing, so A and B are
unspecified. `grid` is unspecified and not observable: DESIGN CHOICE, log entry 6. The model's own fields: DESIGN CHOICE,
log entry 7. -/
def State.reset : State where
  irqEn := false
  done := false
  symState := .empty
  final := false
  stageOvf := false
  cmdOvf := false
  err := .ok
  running := none
  arg := Quad.zero
  res := Quad.zero
  versionReq := 0
  level := .low
  versionEff := 0
  moduleCount := 0
  mask := 0
  dataBits := 0
  cw := []
  trialP123 := List.replicate 8 0
  trialDark := List.replicate 8 0
  stage := []
  segs := []
  bb := []
  aLen := 0
  bLen := 0
  cells := []
  r := []
  grid := []
  events := []
  rdata := 0
  latencies := []
  epoch := 0
  free := 0

/-- Why a step stops with a fault: never. The block has no trap, and every error is a completion with a nonzero ERR, after
which it goes on (R280, R288); so no rule raises a fault, and the type has no constructor (log entry 16; safe). -/
inductive Fault where
  deriving DecidableEq, Repr

/-- Why a step is refused. -/
inductive Refusal where
  /-- Raised by an arm of `exec` whose command has no meaning yet. Safe: the machine stops. -/
  | notModelled (mnemonic : String)
  /-- Raised by the port on a byte or halfword access (R63, U4: "refuse"). Safe: the machine stops. -/
  | narrowAccess
  /-- Raised by the port on a word access at an offset that is no multiple of 4 (R63, U4: "refuse"). Safe. -/
  | misalignedAccess
  deriving DecidableEq, Repr

/-- The outcome of a step or of a meaning. -/
abbrev Result := Host.Outcome State Fault Refusal

end Sys2Proof.Machine
end

