-- ==== Sys2Proof/Machine/Ops.lean ====
section
/-! DEFINITION. The named operations over the state: the cells of windows A and B, acceptance of a command (R282), its
completion (R283), its completion with an error (the block's only exception, R284, R288), reset (R310, R311), and the
groups of writes that several commands share. -/

namespace Sys2Proof.Machine

/-! ## The cells of windows A and B -/

/-- What an unlisted cell holds: no byte that the spec gives (R310, U1). `State.cell` answers a read of it with the free
value (log entry 3). -/
def Memory.unlisted : Option Byte := none

/-- The byte listed for an offset. -/
def Memory.find? : Memory → Nat → Option Byte
  | [], _ => Memory.unlisted
  | (k, b) :: rest, a => if a = k then some b else Memory.find? rest a

/-- A write of one byte, in canonical form: in rising order, one entry for an offset. -/
def Memory.insert : Memory → Nat → Byte → Memory
  | [], a, v => [(a, v)]
  | (k, b) :: rest, a, v =>
    if a < k then (a, v) :: (k, b) :: rest
    else if a = k then (k, v) :: rest
    else (k, b) :: Memory.insert rest a v

/-- The canonical form: offsets strictly rising. No entry equals `Memory.unlisted`, since every entry is a byte. -/
def Memory.wf : Memory → Bool
  | [] => true
  | [_] => true
  | a :: b :: rest => a.1 < b.1 && Memory.wf (b :: rest)

/-- The byte a cell of A or B holds (R43): the byte written, or the unspecified byte of this reset (R310, R323). -/
def State.cell (s : State) (a : Nat) : Byte := (s.cells.find? a).getD (Config.freeCell s.epoch a)

/-- A write of one cell of A or B (R43). -/
def State.setCell (s : State) (a : Nat) (v : Byte) : State := { s with cells := s.cells.insert a v }

/-- Writes of the bytes of a list at word offsets `a`, `a + 4`, ... (R61). -/
def State.setCells (s : State) (a : Nat) : List Byte → State
  | [] => s
  | b :: bs => State.setCells (s.setCell a b) (a + 4) bs

/-! ## Registers that are views of other state -/

/-- STATUS.BUSY: 1 while the sequencer executes a command (R24, R282). -/
def State.busy (s : State) : Bool := s.running.isSome

/-- SEG_COUNT (R36). -/
def State.segCount (s : State) : Nat := s.segs.length

/-- The total bytes of a segment list. -/
def segBytesOf (segs : List Segment) : Nat := (segs.map (fun g => g.bytes.length)).sum

/-- SEG_BYTES (R41). -/
def State.segBytes (s : State) : Nat := segBytesOf s.segs

/-- STAGE_LEN (R37). -/
def State.stageLen (s : State) : Nat := s.stage.length

/-- BB_LEN (R42). -/
def State.bbLen (s : State) : Nat := s.bb.length

/-- R_LEN (R43). -/
def State.rLen (s : State) : Nat := s.r.length

/-- CW_LEN (R34). -/
def State.cwLen (s : State) : Nat := s.cw.length

/-! ## A command's life -/

/-- Acceptance of the command word `w` (R282): BUSY is set and DONE cleared. The command's latency is 1 plus the next entry
of the schedule (R330; log entry 1). -/
def State.accept (s : State) (w : Word) : State :=
  { s with running := some ⟨w, 1 + s.latencies.headD 0⟩, latencies := s.latencies.tail, done := false }

/-- Completion (R283): RES, ERR, BUSY ← 0 and DONE ← 1 at one instant. -/
def State.complete (s : State) (e : ErrCode) (r : Quad) : State :=
  { s with res := r, err := e, running := none, done := true }

/-- A command that ends well: `s` holds its writes, `r` its results (R28, R283). -/
def succeed (s : State) (r : Quad) : Result := .next (s.complete .ok r)

/-- A command that ends with error `e` (R284): nothing of `s` changes but STATUS (BUSY, DONE, ERR) and RES, all 0. This is
the block's only exception; it has no entry, saved state or return (R288). -/
def raise (e : ErrCode) (s : State) : Result := .next (s.complete e Quad.zero)

/-- Results in RES0 alone (R28: the registers a rule does not name are 0). -/
def Quad.one (w : Word) : Quad := ⟨w, 0, 0, 0⟩

/-! ## Groups of writes -/

/-- STAGE ← [], STAGE_OVF ← 0 (R40). -/
def State.clearStage (s : State) : State := { s with stage := [], stageOvf := false }

/-- The registers of the made symbol ← 0 (R150, R260). -/
def State.clearMade (s : State) : State :=
  { s with
    versionEff := 0, moduleCount := 0, mask := 0, dataBits := 0, cw := []
    trialP123 := List.replicate 8 0, trialDark := List.replicate 8 0 }

/-- Reset, hardware or soft (R310, R311): every piece of the block's state at its reset value, A and B unspecified anew
(log entry 5), a command in progress abandoned. What is the host's stays: the events to come, the word last read, the
latencies to come. -/
def State.afterReset (s : State) : State :=
  { State.reset with
    events := s.events, rdata := s.rdata, latencies := s.latencies, epoch := s.epoch + 1, free := s.free }

end Sys2Proof.Machine
end

