-- ==== Sys2Proof/Machine/Operands.lean ====
section
/-! DEFINITION. The operand forms (spec rule R82): an ARG register as an unsigned whole word, the one signed operand, and the
coded operands (level, mode, mask index, window select, version), each refusing what its rule puts out of range; and the
windows as polynomials (R43, R110). -/

namespace Sys2Proof.Machine

/-- ARG0, unsigned (R26, R82). -/
def State.arg0 (s : State) : Nat := s.arg.w0.toNat

/-- ARG1, unsigned (R26, R82). -/
def State.arg1 (s : State) : Nat := s.arg.w1.toNat

/-- ARG2, unsigned (R26, R82). -/
def State.arg2 (s : State) : Nat := s.arg.w2.toNat

/-- ARG0 as a signed two's-complement integer, the operand of GF_EXP alone (R82, R104). -/
def State.arg0Signed (s : State) : Int := s.arg.w0.toInt

/-! ## Levels, modes, masks, versions -/

/-- The level code (R30, D12). -/
def Level.code : Level → Nat
  | .low => 0
  | .medium => 1
  | .quartile => 2
  | .high => 3

/-- The level a code names (R130, R260). -/
def Level.ofCode? (n : Nat) : Option Level :=
  match n with
  | 0 => some .low
  | 1 => some .medium
  | 2 => some .quartile
  | 3 => some .high
  | _ => none

/-- The mode code, which is also the 4-bit mode indicator (R140, D13). -/
def Mode.code : Mode → Nat
  | .numeric => 1
  | .alphanumeric => 2
  | .byte => 4
  | .kanji => 8

/-- The mode a code names (R140: every other value is not a mode). -/
def Mode.ofCode? (n : Nat) : Option Mode :=
  match n with
  | 1 => some .numeric
  | 2 => some .alphanumeric
  | 4 => some .byte
  | 8 => some .kanji
  | _ => none

/-- A mask index 0..7 (R230). -/
def maskIndex? (n : Nat) : Option (Fin 8) := if h : n < 8 then some ⟨n, h⟩ else none

/-- A version that is the key of a table: 1..VMAX (R131). -/
def versionOk (v : Nat) : Bool := 1 ≤ v && v ≤ Config.vmax

/-- The module count `N` of a version (R19, R267). -/
def sideOf (v : Nat) : Nat := 4 * v + 17

/-! ## Polynomial windows -/

/-- A window a command names by its select operand: 0 = A, 1 = B (R115, R120). -/
inductive Win where
  | a
  | b
  deriving DecidableEq, Repr

/-- The window a select operand names (R115, R120: above 1 is DOMAIN). -/
def Win.ofSelect? (n : Nat) : Option Win :=
  match n with
  | 0 => some .a
  | 1 => some .b
  | _ => none

/-- The offset of a window's cell 0 (R21). -/
def Win.base : Win → Nat
  | .a => 0x0400
  | .b => 0x0800

/-- The offset of a window's cell `i` (R21, R61). -/
def Win.offset (w : Win) (i : Nat) : Nat := w.base + 4 * i

/-- A_LEN or B_LEN (R43). -/
def State.winLen (s : State) : Win → Nat
  | .a => s.aLen
  | .b => s.bLen

/-- A write of A_LEN or B_LEN (R43). -/
def State.setWinLen (s : State) (w : Win) (n : Nat) : State :=
  match w with
  | .a => { s with aLen := n }
  | .b => { s with bLen := n }

/-- The raw list of a window, `[W[0], ..., W[W_LEN-1]]` (R43, R110). -/
def State.rawList (s : State) (w : Win) : List Byte := (List.range (s.winLen w)).map (fun i => s.cell (w.offset i))

/-- A command's write of a window: cells `0..len-1` and the length; the cells above stay (R115, R120). -/
def State.writeWin (s : State) (w : Win) (p : List Byte) : State := (s.setCells w.base p).setWinLen w p.length

/-- A command's write of window R and its length (R43). -/
def State.writeR (s : State) (p : List Byte) : State := { s with r := p }

end Sys2Proof.Machine
end

