-- ==== Sys2Proof/Machine/EcBlocks.lean ====
section
/-! DEFINITION. The error-correction table, the block planner and the raw module count, with the commands EC_PLAN and
RAW_MODULES (spec rules R130 to R137). -/

namespace Sys2Proof.Machine

/-- A group of equal blocks: how many, total codewords of each, data codewords of each (R130). -/
structure Group where
  count : Nat
  total : Nat
  data : Nat
  deriving DecidableEq, Repr

/-- A table entry: group 1, and group 2 where there is one (R130: `c2` may be 0). -/
structure EcRow where
  g1 : Group
  g2 : Option Group
  deriving DecidableEq, Repr

/-- A block: total codewords and data codewords (R131). -/
structure Block where
  total : Nat
  data : Nat
  deriving DecidableEq, Repr

/-- The EC codewords of a block (R132). -/
def Block.ec (b : Block) : Nat := b.total - b.data

/-- TABLE of versions 1 to 5, four levels a version, L first (R133). -/
def ecPart0 : List EcRow :=
  [⟨⟨1, 26, 19⟩, none⟩, ⟨⟨1, 26, 16⟩, none⟩,
   ⟨⟨1, 26, 13⟩, none⟩, ⟨⟨1, 26, 9⟩, none⟩,
   ⟨⟨1, 44, 34⟩, none⟩, ⟨⟨1, 44, 28⟩, none⟩,
   ⟨⟨1, 44, 22⟩, none⟩, ⟨⟨1, 44, 16⟩, none⟩,
   ⟨⟨1, 70, 55⟩, none⟩, ⟨⟨1, 70, 44⟩, none⟩,
   ⟨⟨2, 35, 17⟩, none⟩, ⟨⟨2, 35, 13⟩, none⟩,
   ⟨⟨1, 100, 80⟩, none⟩, ⟨⟨2, 50, 32⟩, none⟩,
   ⟨⟨2, 50, 24⟩, none⟩, ⟨⟨4, 25, 9⟩, none⟩,
   ⟨⟨1, 134, 108⟩, none⟩, ⟨⟨2, 67, 43⟩, none⟩,
   ⟨⟨2, 33, 15⟩, some ⟨2, 34, 16⟩⟩, ⟨⟨2, 33, 11⟩, some ⟨2, 34, 12⟩⟩]

/-- TABLE of versions 6 to 10, four levels a version, L first (R133). -/
def ecPart1 : List EcRow :=
  [⟨⟨2, 86, 68⟩, none⟩, ⟨⟨4, 43, 27⟩, none⟩,
   ⟨⟨4, 43, 19⟩, none⟩, ⟨⟨4, 43, 15⟩, none⟩,
   ⟨⟨2, 98, 78⟩, none⟩, ⟨⟨4, 49, 31⟩, none⟩,
   ⟨⟨2, 32, 14⟩, some ⟨4, 33, 15⟩⟩, ⟨⟨4, 39, 13⟩, some ⟨1, 40, 14⟩⟩,
   ⟨⟨2, 121, 97⟩, none⟩, ⟨⟨2, 60, 38⟩, some ⟨2, 61, 39⟩⟩,
   ⟨⟨4, 40, 18⟩, some ⟨2, 41, 19⟩⟩, ⟨⟨4, 40, 14⟩, some ⟨2, 41, 15⟩⟩,
   ⟨⟨2, 146, 116⟩, none⟩, ⟨⟨3, 58, 36⟩, some ⟨2, 59, 37⟩⟩,
   ⟨⟨4, 36, 16⟩, some ⟨4, 37, 17⟩⟩, ⟨⟨4, 36, 12⟩, some ⟨4, 37, 13⟩⟩,
   ⟨⟨2, 86, 68⟩, some ⟨2, 87, 69⟩⟩, ⟨⟨4, 69, 43⟩, some ⟨1, 70, 44⟩⟩,
   ⟨⟨6, 43, 19⟩, some ⟨2, 44, 20⟩⟩, ⟨⟨6, 43, 15⟩, some ⟨2, 44, 16⟩⟩]

/-- TABLE of versions 11 to 15, four levels a version, L first (R133). -/
def ecPart2 : List EcRow :=
  [⟨⟨4, 101, 81⟩, none⟩, ⟨⟨1, 80, 50⟩, some ⟨4, 81, 51⟩⟩,
   ⟨⟨4, 50, 22⟩, some ⟨4, 51, 23⟩⟩, ⟨⟨3, 36, 12⟩, some ⟨8, 37, 13⟩⟩,
   ⟨⟨2, 116, 92⟩, some ⟨2, 117, 93⟩⟩, ⟨⟨6, 58, 36⟩, some ⟨2, 59, 37⟩⟩,
   ⟨⟨4, 46, 20⟩, some ⟨6, 47, 21⟩⟩, ⟨⟨7, 42, 14⟩, some ⟨4, 43, 15⟩⟩,
   ⟨⟨4, 133, 107⟩, none⟩, ⟨⟨8, 59, 37⟩, some ⟨1, 60, 38⟩⟩,
   ⟨⟨8, 44, 20⟩, some ⟨4, 45, 21⟩⟩, ⟨⟨12, 33, 11⟩, some ⟨4, 34, 12⟩⟩,
   ⟨⟨3, 145, 115⟩, some ⟨1, 146, 116⟩⟩, ⟨⟨4, 64, 40⟩, some ⟨5, 65, 41⟩⟩,
   ⟨⟨11, 36, 16⟩, some ⟨5, 37, 17⟩⟩, ⟨⟨11, 36, 12⟩, some ⟨5, 37, 13⟩⟩,
   ⟨⟨5, 109, 87⟩, some ⟨1, 110, 88⟩⟩, ⟨⟨5, 65, 41⟩, some ⟨5, 66, 42⟩⟩,
   ⟨⟨5, 54, 24⟩, some ⟨7, 55, 25⟩⟩, ⟨⟨11, 36, 12⟩, some ⟨7, 37, 13⟩⟩]

/-- TABLE of versions 16 to 20, four levels a version, L first (R133). -/
def ecPart3 : List EcRow :=
  [⟨⟨5, 122, 98⟩, some ⟨1, 123, 99⟩⟩, ⟨⟨7, 73, 45⟩, some ⟨3, 74, 46⟩⟩,
   ⟨⟨15, 43, 19⟩, some ⟨2, 44, 20⟩⟩, ⟨⟨3, 45, 15⟩, some ⟨13, 46, 16⟩⟩,
   ⟨⟨1, 135, 107⟩, some ⟨5, 136, 108⟩⟩, ⟨⟨10, 74, 46⟩, some ⟨1, 75, 47⟩⟩,
   ⟨⟨1, 50, 22⟩, some ⟨15, 51, 23⟩⟩, ⟨⟨2, 42, 14⟩, some ⟨17, 43, 15⟩⟩,
   ⟨⟨5, 150, 120⟩, some ⟨1, 151, 121⟩⟩, ⟨⟨9, 69, 43⟩, some ⟨4, 70, 44⟩⟩,
   ⟨⟨17, 50, 22⟩, some ⟨1, 51, 23⟩⟩, ⟨⟨2, 42, 14⟩, some ⟨19, 43, 15⟩⟩,
   ⟨⟨3, 141, 113⟩, some ⟨4, 142, 114⟩⟩, ⟨⟨3, 70, 44⟩, some ⟨11, 71, 45⟩⟩,
   ⟨⟨17, 47, 21⟩, some ⟨4, 48, 22⟩⟩, ⟨⟨9, 39, 13⟩, some ⟨16, 40, 14⟩⟩,
   ⟨⟨3, 135, 107⟩, some ⟨5, 136, 108⟩⟩, ⟨⟨3, 67, 41⟩, some ⟨13, 68, 42⟩⟩,
   ⟨⟨15, 54, 24⟩, some ⟨5, 55, 25⟩⟩, ⟨⟨15, 43, 15⟩, some ⟨10, 44, 16⟩⟩]

/-- TABLE of versions 21 to 25, four levels a version, L first (R133). -/
def ecPart4 : List EcRow :=
  [⟨⟨4, 144, 116⟩, some ⟨4, 145, 117⟩⟩, ⟨⟨17, 68, 42⟩, none⟩,
   ⟨⟨17, 50, 22⟩, some ⟨6, 51, 23⟩⟩, ⟨⟨19, 46, 16⟩, some ⟨6, 47, 17⟩⟩,
   ⟨⟨2, 139, 111⟩, some ⟨7, 140, 112⟩⟩, ⟨⟨17, 74, 46⟩, none⟩,
   ⟨⟨7, 54, 24⟩, some ⟨16, 55, 25⟩⟩, ⟨⟨34, 37, 13⟩, none⟩,
   ⟨⟨4, 151, 121⟩, some ⟨5, 152, 122⟩⟩, ⟨⟨4, 75, 47⟩, some ⟨14, 76, 48⟩⟩,
   ⟨⟨11, 54, 24⟩, some ⟨14, 55, 25⟩⟩, ⟨⟨16, 45, 15⟩, some ⟨14, 46, 16⟩⟩,
   ⟨⟨6, 147, 117⟩, some ⟨4, 148, 118⟩⟩, ⟨⟨6, 73, 45⟩, some ⟨14, 74, 46⟩⟩,
   ⟨⟨11, 54, 24⟩, some ⟨16, 55, 25⟩⟩, ⟨⟨30, 46, 16⟩, some ⟨2, 47, 17⟩⟩,
   ⟨⟨8, 132, 106⟩, some ⟨4, 133, 107⟩⟩, ⟨⟨8, 75, 47⟩, some ⟨13, 76, 48⟩⟩,
   ⟨⟨7, 54, 24⟩, some ⟨22, 55, 25⟩⟩, ⟨⟨22, 45, 15⟩, some ⟨13, 46, 16⟩⟩]

/-- TABLE of versions 26 to 30, four levels a version, L first (R133). -/
def ecPart5 : List EcRow :=
  [⟨⟨10, 142, 114⟩, some ⟨2, 143, 115⟩⟩, ⟨⟨19, 74, 46⟩, some ⟨4, 75, 47⟩⟩,
   ⟨⟨28, 50, 22⟩, some ⟨6, 51, 23⟩⟩, ⟨⟨33, 46, 16⟩, some ⟨4, 47, 17⟩⟩,
   ⟨⟨8, 152, 122⟩, some ⟨4, 153, 123⟩⟩, ⟨⟨22, 73, 45⟩, some ⟨3, 74, 46⟩⟩,
   ⟨⟨8, 53, 23⟩, some ⟨26, 54, 24⟩⟩, ⟨⟨12, 45, 15⟩, some ⟨28, 46, 16⟩⟩,
   ⟨⟨3, 147, 117⟩, some ⟨10, 148, 118⟩⟩, ⟨⟨3, 73, 45⟩, some ⟨23, 74, 46⟩⟩,
   ⟨⟨4, 54, 24⟩, some ⟨31, 55, 25⟩⟩, ⟨⟨11, 45, 15⟩, some ⟨31, 46, 16⟩⟩,
   ⟨⟨7, 146, 116⟩, some ⟨7, 147, 117⟩⟩, ⟨⟨21, 73, 45⟩, some ⟨7, 74, 46⟩⟩,
   ⟨⟨1, 53, 23⟩, some ⟨37, 54, 24⟩⟩, ⟨⟨19, 45, 15⟩, some ⟨26, 46, 16⟩⟩,
   ⟨⟨5, 145, 115⟩, some ⟨10, 146, 116⟩⟩, ⟨⟨19, 75, 47⟩, some ⟨10, 76, 48⟩⟩,
   ⟨⟨15, 54, 24⟩, some ⟨25, 55, 25⟩⟩, ⟨⟨23, 45, 15⟩, some ⟨25, 46, 16⟩⟩]

/-- TABLE of versions 31 to 35, four levels a version, L first (R133). -/
def ecPart6 : List EcRow :=
  [⟨⟨13, 145, 115⟩, some ⟨3, 146, 116⟩⟩, ⟨⟨2, 74, 46⟩, some ⟨29, 75, 47⟩⟩,
   ⟨⟨42, 54, 24⟩, some ⟨1, 55, 25⟩⟩, ⟨⟨23, 45, 15⟩, some ⟨28, 46, 16⟩⟩,
   ⟨⟨17, 145, 115⟩, none⟩, ⟨⟨10, 74, 46⟩, some ⟨23, 75, 47⟩⟩,
   ⟨⟨10, 54, 24⟩, some ⟨35, 55, 25⟩⟩, ⟨⟨19, 45, 15⟩, some ⟨35, 46, 16⟩⟩,
   ⟨⟨17, 145, 115⟩, some ⟨1, 146, 116⟩⟩, ⟨⟨14, 74, 46⟩, some ⟨21, 75, 47⟩⟩,
   ⟨⟨29, 54, 24⟩, some ⟨19, 55, 25⟩⟩, ⟨⟨11, 45, 15⟩, some ⟨46, 46, 16⟩⟩,
   ⟨⟨13, 145, 115⟩, some ⟨6, 146, 116⟩⟩, ⟨⟨14, 74, 46⟩, some ⟨23, 75, 47⟩⟩,
   ⟨⟨44, 54, 24⟩, some ⟨7, 55, 25⟩⟩, ⟨⟨59, 46, 16⟩, some ⟨1, 47, 17⟩⟩,
   ⟨⟨12, 151, 121⟩, some ⟨7, 152, 122⟩⟩, ⟨⟨12, 75, 47⟩, some ⟨26, 76, 48⟩⟩,
   ⟨⟨39, 54, 24⟩, some ⟨14, 55, 25⟩⟩, ⟨⟨22, 45, 15⟩, some ⟨41, 46, 16⟩⟩]

/-- TABLE of versions 36 to 40, four levels a version, L first (R133). -/
def ecPart7 : List EcRow :=
  [⟨⟨6, 151, 121⟩, some ⟨14, 152, 122⟩⟩, ⟨⟨6, 75, 47⟩, some ⟨34, 76, 48⟩⟩,
   ⟨⟨46, 54, 24⟩, some ⟨10, 55, 25⟩⟩, ⟨⟨2, 45, 15⟩, some ⟨64, 46, 16⟩⟩,
   ⟨⟨17, 152, 122⟩, some ⟨4, 153, 123⟩⟩, ⟨⟨29, 74, 46⟩, some ⟨14, 75, 47⟩⟩,
   ⟨⟨49, 54, 24⟩, some ⟨10, 55, 25⟩⟩, ⟨⟨24, 45, 15⟩, some ⟨46, 46, 16⟩⟩,
   ⟨⟨4, 152, 122⟩, some ⟨18, 153, 123⟩⟩, ⟨⟨13, 74, 46⟩, some ⟨32, 75, 47⟩⟩,
   ⟨⟨48, 54, 24⟩, some ⟨14, 55, 25⟩⟩, ⟨⟨42, 45, 15⟩, some ⟨32, 46, 16⟩⟩,
   ⟨⟨20, 147, 117⟩, some ⟨4, 148, 118⟩⟩, ⟨⟨40, 75, 47⟩, some ⟨7, 76, 48⟩⟩,
   ⟨⟨43, 54, 24⟩, some ⟨22, 55, 25⟩⟩, ⟨⟨10, 45, 15⟩, some ⟨67, 46, 16⟩⟩,
   ⟨⟨19, 148, 118⟩, some ⟨6, 149, 119⟩⟩, ⟨⟨18, 75, 47⟩, some ⟨31, 76, 48⟩⟩,
   ⟨⟨34, 54, 24⟩, some ⟨34, 55, 25⟩⟩, ⟨⟨20, 45, 15⟩, some ⟨61, 46, 16⟩⟩]

/-- The error-correction table, indexed by `4·(version − 1) + level` (R131, R133). -/
def ecTable : List EcRow :=
  ecPart0 ++ ecPart1 ++ ecPart2 ++ ecPart3 ++ ecPart4 ++ ecPart5 ++ ecPart6 ++ ecPart7

/-- `TABLE[v][l]`, for a version 1..VMAX (R131; none is DOMAIN). -/
def ecRow? (v : Nat) (l : Level) : Option EcRow := if versionOk v then ecTable[4 * (v - 1) + l.code]? else none

/-- The blocks of a group. -/
def Group.blocks (g : Group) : List Block := List.replicate g.count ⟨g.total, g.data⟩

/-- The blocks of an entry, group 1 first (R131). -/
def EcRow.blocks (e : EcRow) : List Block :=
  e.g1.blocks ++ (match e.g2 with | some g => g.blocks | none => [])

/-- `plan(v, l)` (R131; none is DOMAIN). -/
def plan? (v : Nat) (l : Level) : Option (List Block) := (ecRow? v l).map EcRow.blocks

/-! ## Aggregates of a plan (R132) -/

/-- `data_total`, the capacity in codewords (R132). -/
def dataTotal (p : List Block) : Nat := (p.map Block.data).sum

/-- `ec_total` (R132). -/
def ecTotal (p : List Block) : Nat := (p.map Block.ec).sum

/-- `cw_total` (R132). -/
def cwTotal (p : List Block) : Nat := (p.map Block.total).sum

/-- `max_data` (R132). -/
def maxData (p : List Block) : Nat := (p.map Block.data).foldl max 0

/-- `max_ec` (R132). -/
def maxEc (p : List Block) : Nat := (p.map Block.ec).foldl max 0

/-! ## Raw module capacity -/

/-- Alignment coordinates per axis for `v ≥ 2`, `⌊v/7⌋ + 2` (R134). -/
def alignCount (v : Nat) : Nat := v / 7 + 2

/-- `raw_modules(v)` (R134). No subtraction goes below 0 for `v` in 1..40. -/
def rawModules (v : Nat) : Nat :=
  let n := sideOf v
  let na := alignCount v
  let r1 := n * n - 3 * 64 - 2 * (n - 16) - 31
  let r2 := if 2 ≤ v then r1 - (25 * (na * na - 3) - 10 * (na - 2)) else r1
  if 7 ≤ v then r2 - 36 else r2

/-! ## Commands -/

/-- A group packed in a result: count in bits 7:0, total in 15:8, data in 23:16 (R135). -/
def Group.packed (g : Group) : Nat := g.count ||| (g.total <<< 8) ||| (g.data <<< 16)

/-- EC_PLAN (R135): a version outside 1..40 or a level code above 3 is DOMAIN. -/
def execEcPlan (s : State) : Result :=
  match (Level.ofCode? s.arg1).bind (fun l => ecRow? s.arg0 l) with
  | none => raise .domain s
  | some e =>
    let p := e.blocks
    succeed s
      ⟨word e.g1.packed,
       word (match e.g2 with | some g => if 0 < g.count then g.packed else 0 | none => 0),
       word (dataTotal p ||| (ecTotal p <<< 16)),
       word (p.length ||| (maxEc p <<< 8) ||| (maxData p <<< 16))⟩

/-- RAW_MODULES (R136). -/
def execRawModules (s : State) : Result :=
  if versionOk s.arg0 then
    let r := rawModules s.arg0
    succeed s ⟨word r, word (r / 8), word (r % 8), 0⟩
  else raise .domain s

end Sys2Proof.Machine
end

