-- ==== Sys2Proof/Machine/Poly.lean ====
section
/-! DEFINITION. Polynomials over GF(256), highest order first: construction, product, remainder, the Reed-Solomon generator
and remainder encoder, and the six polynomial commands (spec rules R110 to R123). -/

namespace Sys2Proof.Machine

/-- A polynomial, highest order first; the empty list is the zero polynomial (R15, R110). -/
abbrev Poly := List Byte

/-! ## Construction, product, remainder -/

/-- `n` zero coefficients (R15). -/
def zeros (n : Nat) : Poly := List.replicate n 0

/-- "strip leading zero coefficients" (R111). -/
def strip (p : Poly) : Poly := p.dropWhile (fun c => c == 0)

/-- `Construct(coeffs, shift)`: strip first, then append `shift` zeros (R111). -/
def construct (p : Poly) (shift : Nat) : Poly := strip p ++ zeros shift

/-- `num[k] ← num[k] ^ c` (R112). -/
def xorAt (num : Poly) (k : Nat) (c : Byte) : Poly := num.set k (num.getD k 0 ^^^ c)

/-- The inner loop of the product: row `i` of the coefficients of `b`, from column `j` on (R112). -/
def pmulRow (ai : Byte) (num : Poly) (k : Nat) : Poly → Poly
  | [] => num
  | bj :: bs => pmulRow ai (xorAt num k (gmul ai bj)) (k + 1) bs

/-- The outer loop of the product: the coefficients of `a` from index `i` on (R112). -/
def pmulRows (b : Poly) (num : Poly) (i : Nat) : Poly → Poly
  | [] => num
  | ai :: as => pmulRows b (pmulRow ai num i b) (i + 1) as

/-- `pmul(a, b)` (R112); a product with an empty polynomial is empty (D19). -/
def pmul (a b : Poly) : Poly :=
  let a' := construct a 0
  let b' := construct b 0
  if a' = [] ∨ b' = [] then []
  else construct (pmulRows b' (zeros (a'.length + b'.length - 1)) 0 a') 0

/-- One coefficient of a pass of the long division: a zero divisor coefficient contributes nothing (R113, D20). -/
def modCoeff (ratio : Int) (c e : Byte) : Byte := if e = 0 then c else c ^^^ gexp (glog e + ratio)

/-- The scaled divisor subtracted from the front of the dividend (R113). -/
def modPass (ratio : Int) : Poly → Poly → Poly
  | c :: cs, e :: es => modCoeff ratio c e :: modPass ratio cs es
  | cs, _ => cs

/-- The loop of the remainder on stripped operands, at most `fuel` passes (R113). A pass shortens the dividend by at least
one coefficient (R114), so `a.length` passes are enough (log entry 22). -/
def pmodLoop (e : Poly) : Nat → Poly → Poly
  | 0, a => a
  | fuel + 1, a =>
    if a.length < e.length then a
    else
      let ratio := glog (a.headD 0) - glog (e.headD 0)
      pmodLoop e fuel (construct (modPass ratio a e) 0)

/-- `pmod(a, e)` (R113); none is DOMAIN, division by the zero polynomial (D20). -/
def pmod? (a e : Poly) : Option Poly :=
  let a' := construct a 0
  let e' := construct e 0
  if e' = [] then none else some (pmodLoop e' a'.length a')

/-! ## The Reed-Solomon generator and encoder -/

/-- `gen(L)`, the product of `[1, exp(i)]` for `i` in 0..L-1 (R116). -/
def gen : Nat → Poly
  | 0 => [1]
  | n + 1 => pmul (gen n) [1, gexp n]

/-- `rs_ec(data, L)`: the remainder, right-aligned into exactly `L` bytes (R117, D21). -/
def rsEc (data : Poly) (n : Nat) : Poly :=
  match pmod? (construct data n) (gen n) with
  | some rem => zeros (n - rem.length) ++ rem
  | none => zeros n

/-! ## Commands -/

/-- A command's result in window R, its length in RES0 (R118, R119, R121, R122). -/
def succeedR (s : State) (p : Poly) : Result := succeed (s.writeR p) (Quad.one (word p.length))

/-- POLY_CONSTRUCT (R115): the length test is on the mathematical sum, before any cell is written. -/
def execPolyConstruct (s : State) : Result :=
  match Win.ofSelect? s.arg0 with
  | none => raise .domain s
  | some w =>
    let n := (strip (s.rawList w)).length + s.arg1
    if Config.polyMax < n then raise .domain s
    else succeed (s.writeWin w (construct (s.rawList w) s.arg1)) (Quad.one (word n))

/-- POLY_MUL (R118). -/
def execPolyMul (s : State) : Result :=
  let p := pmul (construct (s.rawList .a) 0) (construct (s.rawList .b) 0)
  if Config.polyMax < p.length then raise .domain s else succeedR s p

/-- POLY_MOD (R119). -/
def execPolyMod (s : State) : Result :=
  match pmod? (construct (s.rawList .a) 0) (construct (s.rawList .b) 0) with
  | none => raise .domain s
  | some p => succeedR s p

/-- POLY_MOVE (R120). -/
def execPolyMove (s : State) : Result :=
  match Win.ofSelect? s.arg0 with
  | none => raise .domain s
  | some w => succeed (s.writeWin w s.r) (Quad.one (word s.rLen))

/-- RS_GEN (R121). -/
def execRsGen (s : State) : Result :=
  if Config.genMaxL < s.arg0 then raise .domain s else succeedR s (gen s.arg0)

/-- RS_ENCODE (R122): window A raw, B not read. -/
def execRsEncode (s : State) : Result :=
  if Config.genMaxL < s.arg0 then raise .domain s else succeedR s (rsEc (s.rawList .a) s.arg0)

end Sys2Proof.Machine
end

