-- ==== Sys2Proof/Machine/Flags.lean ====
section
/-! DEFINITION. The flags of the block (spec rule R51: STATUS and SEG_CLASS are all there are): the classification of staged
bytes with its three predicates, the STATUS word, and the interrupt output. -/

namespace Sys2Proof.Machine

/-! ## Classification of the staged bytes -/

/-- A decimal digit, 0x30..0x39 (R144). -/
def isDigit (b : Byte) : Bool := 0x30 ≤ b.toNat && b.toNat ≤ 0x39

/-- The code of an alphanumeric character, 0..44; none for any other byte (R145). -/
def alnumCode? (b : Byte) : Option Nat :=
  let n := b.toNat
  if 0x30 ≤ n ∧ n ≤ 0x39 then some (n - 0x30)
  else if 0x41 ≤ n ∧ n ≤ 0x5A then some (n - 0x41 + 10)
  else
    match n with
    | 0x20 => some 36
    | 0x24 => some 37
    | 0x25 => some 38
    | 0x2A => some 39
    | 0x2B => some 40
    | 0x2D => some 41
    | 0x2E => some 42
    | 0x2F => some 43
    | 0x3A => some 44
    | _ => none

/-- The 16-bit value of a byte pair, high byte first (R141, R148). -/
def pairValue (hi lo : Byte) : Nat := hi.toNat * 256 + lo.toNat

/-- The lower of the two valid ranges of pair values (R148). -/
def kanjiLow (c : Nat) : Bool := 0x8140 ≤ c && c ≤ 0x9FFC

/-- The upper of the two valid ranges of pair values (R148). -/
def kanjiHigh (c : Nat) : Bool := 0xE040 ≤ c && c ≤ 0xEBBF

/-- `valid_N` (R144). -/
def validNumeric (bs : List Byte) : Bool := bs.all isDigit

/-- `valid_A` (R145). -/
def validAlnum (bs : List Byte) : Bool := bs.all (fun b => (alnumCode? b).isSome)

/-- `valid_K`: an even length and every pair in one of the two ranges, which alone are tested (R148, V3). -/
def validKanji : List Byte → Bool
  | [] => true
  | [_] => false
  | hi :: lo :: rest => (kanjiLow (pairValue hi lo) || kanjiHigh (pairValue hi lo)) && validKanji rest

/-- `valid_M(bytes)` (R144 to R148); Byte mode takes every byte (R147). -/
def validIn : Mode → List Byte → Bool
  | .numeric, bs => validNumeric bs
  | .alphanumeric, bs => validAlnum bs
  | .byte, _ => true
  | .kanji, bs => validKanji bs

/-- SEG_CLASS: bit 0 NUMERIC, bit 1 ALNUM, bit 2 KANJI (R38, R143). -/
def State.segClass (s : State) : Nat :=
  (validNumeric s.stage).toNat + 2 * (validAlnum s.stage).toNat + 4 * (validKanji s.stage).toNat

/-! ## STATUS and the interrupt -/

/-- STATUS.STATE's code (R24). -/
def SymState.code : SymState → Nat
  | .empty => 0
  | .pending => 1
  | .made => 2

/-- STATUS.ERR's code (R280). -/
def ErrCode.code : ErrCode → Nat
  | .ok => 0
  | .domain => 1
  | .illegalChar => 2
  | .capacity => 3
  | .invalidMode => 4
  | .invalidLevel => 5
  | .outOfBounds => 6
  | .illegalCmd => 7
  | .storeFull => 8
  | .state => 9

/-- The STATUS word: BUSY 0, DONE 1, STATE 3:2, FINAL 4, STAGE_OVF 5, CMD_OVF 6, ERR 15:8, the rest 0 (R24). -/
def State.statusWord (s : State) : Word :=
  word (s.busy.toNat + 2 * s.done.toNat + 4 * s.symState.code + 16 * s.final.toNat + 32 * s.stageOvf.toNat +
    64 * s.cmdOvf.toNat + 256 * s.err.code)

/-- The CTRL word: SRST reads 0, IRQ_EN bit 1 (R23). -/
def State.ctrlWord (s : State) : Word := word (2 * s.irqEn.toNat)

/-- The interrupt output, `STATUS.DONE & CTRL.IRQ_EN` (R287). -/
def State.irq (s : State) : Bool := s.done && s.irqEn

end Sys2Proof.Machine
end

