-- ==== Sys2Proof/Machine/BitBuffer.lean ====
section
/-! DEFINITION. Bit buffers and the commands on the host's buffer BB (spec rules R65, R66, R170 to R177). A buffer is the list
of its bits, first bit written first (R14); the byte view is computed (log entry 9). -/

namespace Sys2Proof.Machine

/-- The `n` low bits of `value`, most significant first (R173): a value's bits at `n` and above are ignored. -/
def fieldBits (value n : Nat) : List Bool := (List.range n).map (fun i => value.testBit (n - 1 - i))

/-- `putBit` (R172). -/
def putBit (buf : List Bool) (b : Bool) : List Bool := buf ++ [b]

/-- `put` (R173). -/
def put (buf : List Bool) (value n : Nat) : List Bool := buf ++ fieldBits value n

/-- `getBit` (R177), for `k` below the length. -/
def getBit (buf : List Bool) (k : Nat) : Bool := buf.getD k false

/-- The byte whose bit 7 is the first of eight bits and bit 0 the last (R14). -/
def byteOfBits (bits : List Bool) : Byte := BitVec.ofNat 8 (bits.foldl (fun acc b => 2 * acc + b.toNat) 0)

/-- Byte `i` of a buffer: bit `k` of the buffer is bit `7 - (k mod 8)` of byte `⌊k/8⌋`, and bits at or past the length are 0
(R66, R170). -/
def bufByte (buf : List Bool) (i : Nat) : Byte :=
  byteOfBits ((List.range 8).map (fun j => buf.getD (8 * i + j) false))

/-- BB_CLEAR (R171). -/
def execBbClear (s : State) : Result := succeed { s with bb := [] } Quad.zero

/-- BB_PUT (R174): DOMAIN above 32 bits, then STORE_FULL, all or nothing. -/
def execBbPut (s : State) : Result :=
  if 32 < s.arg1 then raise .domain s
  else if Config.bbMaxBits < s.bbLen + s.arg1 then raise .storeFull s
  else
    let bb := put s.bb s.arg0 s.arg1
    succeed { s with bb := bb } (Quad.one (word bb.length))

/-- BB_PUTBIT (R175): any nonzero ARG0 is 1. -/
def execBbPutbit (s : State) : Result :=
  if Config.bbMaxBits < s.bbLen + 1 then raise .storeFull s
  else
    let bb := putBit s.bb (s.arg0 != 0)
    succeed { s with bb := bb } (Quad.one (word bb.length))

/-- BB_GETBIT (R176). -/
def execBbGetbit (s : State) : Result :=
  if s.bbLen ≤ s.arg0 then raise .outOfBounds s
  else succeed s (Quad.one (word (getBit s.bb s.arg0).toNat))

end Sys2Proof.Machine
end

