-- ==== Sys2Proof/Machine/Segments.lean ====
section
/-! DEFINITION. The four mode encoders, the character-count widths and the segment write, with the commands STAGE_CLEAR,
ADD_DATA and CCW (spec rules R140 to R155). -/

namespace Sys2Proof.Machine

/-! ## The mode encoders: fields `(value, width)` in order -/

/-- A digit's value, `bytes[i] - 0x30` (R144). -/
def digit (b : Byte) : Nat := b.toNat - 0x30

/-- `enc_N` (R144): three digits in 10 bits, a final two in 7, a final one in 4. -/
def encNumeric : List Byte → List (Nat × Nat)
  | a :: b :: c :: rest => (100 * digit a + 10 * digit b + digit c, 10) :: encNumeric rest
  | [a, b] => [(10 * digit a + digit b, 7)]
  | [a] => [(digit a, 4)]
  | [] => []

/-- `code(b)` of a valid alphanumeric byte (R145). -/
def alnumCode (b : Byte) : Nat := (alnumCode? b).getD 0

/-- `enc_A` (R146): a pair in 11 bits, a final odd character in 6. -/
def encAlnum : List Byte → List (Nat × Nat)
  | a :: b :: rest => (alnumCode a * 45 + alnumCode b, 11) :: encAlnum rest
  | [a] => [(alnumCode a, 6)]
  | [] => []

/-- `enc_B` (R147). -/
def encByte (bs : List Byte) : List (Nat × Nat) := bs.map (fun b => (b.toNat, 8))

/-- The 13-bit value of a valid pair value (R149). -/
def kanjiValue (c : Nat) : Nat :=
  let c' := if kanjiLow c then c - 0x8140 else c - 0xC140
  (c' / 256) * 0xC0 + c' % 256

/-- `enc_K` (R149), on the pairs of a valid list. -/
def encKanji : List Byte → List (Nat × Nat)
  | hi :: lo :: rest => (kanjiValue (pairValue hi lo), 13) :: encKanji rest
  | _ => []

/-- `enc_M(bytes)` (R144 to R149). -/
def encFields : Mode → List Byte → List (Nat × Nat)
  | .numeric, bs => encNumeric bs
  | .alphanumeric, bs => encAlnum bs
  | .byte, bs => encByte bs
  | .kanji, bs => encKanji bs

/-! ## Counts and widths -/

/-- `count(M, bytes)` (R151). -/
def charCount : Mode → List Byte → Nat
  | .kanji, bs => bs.length / 2
  | _, bs => bs.length

/-- `segbits(M, n)`, the data bit length of `n` units (R152). -/
def segBits : Mode → Nat → Nat
  | .numeric, n => 10 * (n / 3) + (match n % 3 with | 0 => 0 | 1 => 4 | _ => 7)
  | .alphanumeric, n => 11 * (n / 2) + 6 * (n % 2)
  | .byte, n => 8 * n
  | .kanji, n => 13 * n

/-- `ccw(M, v)` for a version 1..40 (R153). -/
def ccw (m : Mode) (v : Nat) : Nat :=
  match m with
  | .numeric => if v ≤ 9 then 10 else if v ≤ 26 then 12 else 14
  | .alphanumeric => if v ≤ 9 then 9 else if v ≤ 26 then 11 else 13
  | .byte => if v ≤ 9 then 8 else 16
  | .kanji => if v ≤ 9 then 8 else if v ≤ 26 then 10 else 12

/-- `put` of each field in order (R155). -/
def putFields (buf : List Bool) : List (Nat × Nat) → List Bool
  | [] => buf
  | (value, n) :: fs => putFields (put buf value n) fs

/-- `seg_write`: mode indicator, count modulo the width, data (R155, D23). -/
def segWrite (buf : List Bool) (g : Segment) (v : Nat) : List Bool :=
  let w := ccw g.mode v
  let buf := put buf g.mode.code 4
  let buf := put buf (charCount g.mode g.bytes % 2 ^ w) w
  putFields buf (encFields g.mode g.bytes)

/-! ## The host's best-mode selection -/

/-- The host's procedure over the classification bits (R143); host software, no command. `sjis` is the Shift-JIS form of the
text where it has one. -/
def hostBestMode (utf8 : List Byte) (sjis : Option (List Byte)) : Mode :=
  if validNumeric utf8 then .numeric
  else if validAlnum utf8 then .alphanumeric
  else
    match sjis with
    | some k => if validKanji k then .kanji else .byte
    | none => .byte

/-! ## Commands -/

/-- STAGE_CLEAR (R142). -/
def execStageClear (s : State) : Result := succeed s.clearStage Quad.zero

/-- The store the segment would overflow (R150, D16): a dropped byte, the record count, or the byte total. -/
def State.segStoreFull (s : State) : Bool :=
  s.stageOvf || s.segCount == Config.segMax || Config.segStoreBytes < s.segBytes + s.stageLen

/-- The writes of a successful ADD_DATA (R150). -/
def State.addSegment (s : State) (m : Mode) : State :=
  { s.clearStage.clearMade with
    segs := s.segs ++ [⟨m, s.stage⟩], symState := .pending, final := false }

/-- ADD_DATA (R150): INVALID_MODE, then STORE_FULL, then ILLEGAL_CHAR (D46). -/
def execAddData (s : State) : Result :=
  match Mode.ofCode? s.arg0 with
  | none => raise .invalidMode s
  | some m =>
    if s.segStoreFull then raise .storeFull s
    else if !validIn m s.stage then raise .illegalChar s
    else
      let n := charCount m s.stage
      succeed (s.addSegment m) ⟨word n, word (segBits m n), word (s.segCount + 1), 0⟩

/-- CCW (R154): an unrecognized mode is DOMAIN here. -/
def execCcw (s : State) : Result :=
  match Mode.ofCode? s.arg0 with
  | none => raise .domain s
  | some m => if versionOk s.arg1 then succeed s (Quad.one (word (ccw m s.arg1))) else raise .domain s

end Sys2Proof.Machine
end

