-- ==== Sys2Proof/Machine/Assembler.lean ====
section
/-! DEFINITION. The data assembler: packing, capacity, terminator and padding, block split, per-block Reed-Solomon,
interleaving, version selection (spec rules R180 to R191). It runs inside MAKE, on a bit buffer of its own (R180). -/

namespace Sys2Proof.Machine

/-! ## Packing -/

/-- Packing of segments in order onto a buffer (R181). -/
def packOnto (buf : List Bool) (v : Nat) : List Segment → List Bool
  | [] => buf
  | g :: gs => packOnto (segWrite buf g v) v gs

/-- `pack(SEGS, v)` (R181): the private buffer starts empty (R180). -/
def pack (segs : List Segment) (v : Nat) : List Bool := packOnto [] v segs

/-- The bits one segment costs at version `v` (R181). -/
def segCost (v : Nat) (g : Segment) : Nat := 4 + ccw g.mode v + segBits g.mode (charCount g.mode g.bytes)

/-- `bits(SEGS, v)` (R181). -/
def packedBits (segs : List Segment) (v : Nat) : Nat := (segs.map (segCost v)).sum

/-- The terminator, if all four bits fit (R183, D24). -/
def putTerminator (buf : List Bool) (cap : Nat) : List Bool :=
  if buf.length + 4 ≤ 8 * cap then put buf 0 4 else buf

/-- Zero bits up to a byte boundary (R184). -/
def alignByte (buf : List Bool) : List Bool := buf ++ List.replicate ((8 - buf.length % 8) % 8) false

/-- `n` pad codewords, the `k`-th first: 0xEC when `k` is even, 0x11 when odd (R185). -/
def putPads (buf : List Bool) (k : Nat) : Nat → List Bool
  | 0 => buf
  | n + 1 => putPads (put buf (if k % 2 = 0 then 0xEC else 0x11) 8) (k + 1) n

/-- Pad codewords until the capacity is exactly filled, from a byte boundary (R185). -/
def padTo (buf : List Bool) (cap : Nat) : List Bool := putPads buf 0 ((8 * cap - buf.length) / 8)

/-- The first `n` bytes of a buffer that fills them (R185). -/
def bytesOfBits : Nat → List Bool → List Byte
  | 0, _ => []
  | n + 1, bits => byteOfBits (bits.take 8) :: bytesOfBits n (bits.drop 8)

/-- The data codeword stream of a packed buffer that fits (R183 to R185). -/
def dataStream (buf : List Bool) (cap : Nat) : List Byte :=
  bytesOfBits cap (padTo (alignByte (putTerminator buf cap)) cap)

/-! ## Blocks, RS and interleaving -/

/-- The block split: each block takes its data count from the stream, in order (R186). -/
def splitBlocks (stream : List Byte) : List Block → List (List Byte)
  | [] => []
  | b :: bs => stream.take b.data :: splitBlocks (stream.drop b.data) bs

/-- The EC codewords of each block (R187). -/
def ecBlocks (p : List Block) (data : List (List Byte)) : List (List Byte) :=
  List.zipWith (fun b d => rsEc d b.ec) p data

/-- `n` columns of the blocks, column 0 first, skipping blocks that have run out (R188). -/
def interleave (n : Nat) (blocks : List (List Byte)) : List Byte :=
  (List.range n).flatMap (fun i => blocks.filterMap (fun b => b[i]?))

/-- Split, per-block RS and interleave of a data stream (R186 to R188). -/
def codewords (p : List Block) (stream : List Byte) : List Byte :=
  let data := splitBlocks stream p
  interleave (maxData p) data ++ interleave (maxEc p) (ecBlocks p data)

/-! ## Version selection and the whole assembly -/

/-- Whether the segments fit version `v` at a level (R182, R189). -/
def fits (segs : List Segment) (v : Nat) (lvl : Level) : Bool :=
  match plan? v lvl with
  | some p => packedBits segs v ≤ 8 * dataTotal p
  | none => false

/-- `select_version(SEGS, l)`: the first version 1..40 that fits; none is CAPACITY (R189, C5). -/
def selectVersion? (segs : List Segment) (lvl : Level) : Option Nat :=
  (List.range' 1 Config.vmax).find? (fun v => fits segs v lvl)

/-- `assemble(SEGS, v, l)`: the codewords and the packed bit length (R190). -/
def assemble (segs : List Segment) (v : Nat) (lvl : Level) : Except ErrCode (List Byte × Nat) :=
  match plan? v lvl with
  | none => .error .domain
  | some p =>
    let buf := pack segs v
    if 8 * dataTotal p < buf.length then .error .capacity
    else .ok (codewords p (dataStream buf (dataTotal p)), buf.length)

end Sys2Proof.Machine
end

