-- ==== Sys2Proof/Machine/Patterns.lean ====
section
/-! DEFINITION. The module grid and its structural patterns: finder, alignment, timing, format and version information, with
the commands FORMAT_BITS, VERSION_BITS and ALIGN_POS (spec rules R200 to R215). Coordinates are (row, column). -/

namespace Sys2Proof.Machine

/-! ## The grid -/

/-- `GRID[r][c]`; a cell outside the rows and columns in use is not set (R16, R44). -/
def Grid.cell (g : Grid) (r c : Nat) : Module := (g.getD r []).getD c .unset

/-- `GRID[r][c] ← m` (R16). -/
def Grid.setCell (g : Grid) (r c : Nat) (m : Module) : Grid := g.set r ((g.getD r []).set c m)

/-- A list of cell writes `(row, column, value)`, in order. -/
def Grid.write (g : Grid) : List (Nat × Nat × Module) → Grid
  | [] => g
  | (r, c, m) :: ws => Grid.write (g.setCell r c m) ws

/-- The grid of side `n` with "all cells initially unset" (R200). -/
def Grid.blank (n : Nat) : Grid := List.replicate n (List.replicate n .unset)

/-- DARK for true, LIGHT for false. -/
def Module.ofBool (b : Bool) : Module := if b then .dark else .light

/-! ## Finder, alignment and timing patterns -/

/-- The cells of a finder pattern with its separator, its top-left corner at `(r0, c0)` (R202). -/
def finderWrites (n r0 c0 : Nat) : List (Nat × Nat × Module) :=
  (List.range 9).flatMap (fun i => (List.range 9).filterMap (fun j =>
    let r : Int := (i : Int) - 1
    let c : Int := (j : Int) - 1
    let row : Int := r0 + r
    let col : Int := c0 + c
    let ring : Bool := (0 ≤ r ∧ r ≤ 6 ∧ (c = 0 ∨ c = 6)) ∨ (0 ≤ c ∧ c ≤ 6 ∧ (r = 0 ∨ r = 6))
    let core : Bool := 2 ≤ r ∧ r ≤ 4 ∧ 2 ≤ c ∧ c ≤ 4
    if 0 ≤ row ∧ row < n ∧ 0 ≤ col ∧ col < n then some (row.toNat, col.toNat, Module.ofBool (ring || core))
    else none))

/-- The three finder patterns (R201 step 1, R202). -/
def placeFinders (g : Grid) (n : Nat) : Grid :=
  ((g.write (finderWrites n 0 0)).write (finderWrites n (n - 7) 0)).write (finderWrites n 0 (n - 7))

/-- ALIGN of versions 1 to 10 (R203). -/
def alignPart0 : List (List Nat) :=
  [[], [6, 18], [6, 22],
   [6, 26], [6, 30], [6, 34],
   [6, 22, 38], [6, 24, 42], [6, 26, 46],
   [6, 28, 50]]

/-- ALIGN of versions 11 to 20 (R203). -/
def alignPart1 : List (List Nat) :=
  [[6, 30, 54], [6, 32, 58], [6, 34, 62],
   [6, 26, 46, 66], [6, 26, 48, 70], [6, 26, 50, 74],
   [6, 30, 54, 78], [6, 30, 56, 82], [6, 30, 58, 86],
   [6, 34, 62, 90]]

/-- ALIGN of versions 21 to 30 (R203). -/
def alignPart2 : List (List Nat) :=
  [[6, 28, 50, 72, 94], [6, 26, 50, 74, 98], [6, 30, 54, 78, 102],
   [6, 28, 54, 80, 106], [6, 32, 58, 84, 110], [6, 30, 58, 86, 114],
   [6, 34, 62, 90, 118], [6, 26, 50, 74, 98, 122], [6, 30, 54, 78, 102, 126],
   [6, 26, 52, 78, 104, 130]]

/-- ALIGN of versions 31 to 40 (R203). -/
def alignPart3 : List (List Nat) :=
  [[6, 30, 56, 82, 108, 134], [6, 34, 60, 86, 112, 138], [6, 30, 58, 86, 114, 142],
   [6, 34, 62, 90, 118, 146], [6, 30, 54, 78, 102, 126, 150], [6, 24, 50, 76, 102, 128, 154],
   [6, 28, 54, 80, 106, 132, 158], [6, 32, 58, 84, 110, 136, 162], [6, 26, 54, 82, 110, 138, 166],
   [6, 30, 58, 86, 114, 142, 170]]

/-- The alignment coordinate table, versions 1 to 40 (R203). -/
def alignTable : List (List Nat) := alignPart0 ++ alignPart1 ++ alignPart2 ++ alignPart3

/-- `ALIGN(v)` (R203). -/
def alignCoords (v : Nat) : List Nat := alignTable.getD (v - 1) []

/-- The cells of an alignment pattern centred at `(row, col)` (R204). -/
def alignWrites (row col : Nat) : List (Nat × Nat × Module) :=
  (List.range 5).flatMap (fun i => (List.range 5).map (fun j =>
    (row + i - 2, col + j - 2,
     Module.ofBool (i == 0 || i == 4 || j == 0 || j == 4 || (i == 2 && j == 2)))))

/-- One alignment pattern, skipped whole when its centre is set (R204, D27). -/
def placeAlign (g : Grid) (row col : Nat) : Grid :=
  if g.cell row col = .unset then g.write (alignWrites row col) else g

/-- The alignment patterns at every pair of coordinates, in order (R201 step 2, R204). -/
def placeAligns (g : Grid) (v : Nat) : Grid :=
  let ps := alignCoords v
  ps.foldl (fun g row => ps.foldl (fun g col => placeAlign g row col) g) g

/-- One timing cell, left alone if it is set (R205). -/
def placeTimingCell (g : Grid) (r c : Nat) (dark : Bool) : Grid :=
  if g.cell r c = .unset then g.setCell r c (Module.ofBool dark) else g

/-- The timing patterns, indices 8 to N-9 of column 6 and of row 6 (R201 step 3, R205). -/
def placeTiming (g : Grid) (n : Nat) : Grid :=
  let idx := List.range' 8 (n - 16)
  let g := idx.foldl (fun g r => placeTimingCell g r 6 (r % 2 == 0)) g
  idx.foldl (fun g c => placeTimingCell g 6 c (c % 2 == 0)) g

/-! ## Format and version information -/

/-- The remainder loop on `d` for the divisor `g`, at most `fuel` subtractions (R206; log entry 22). -/
def bchLoop (g : Nat) : Nat → Nat → Nat
  | 0, d => d
  | fuel + 1, d =>
    if d ≠ 0 ∧ g.log2 ≤ d.log2 then bchLoop g fuel (d ^^^ (g <<< (d.log2 - g.log2))) else d

/-- `bch_rem(data, g, k)`: the remainder of `data·x^k` divided by `g` over GF(2) (R206). Each subtraction lowers the degree,
so the degree of `data·x^k` plus 1 bounds their number. -/
def bchRem (data g k : Nat) : Nat := bchLoop g ((data <<< k).log2 + 1) (data <<< k)

/-- G15 (R206). -/
def g15 : Nat := 0x537

/-- G15_MASK (R206). -/
def g15Mask : Nat := 0x5412

/-- G18 (R209). -/
def g18 : Nat := 0x1F25

/-- EC_IND, the 2-bit indicator of a level (R206, D40). -/
def ecIndicator : Level → Nat
  | .low => 0b01
  | .medium => 0b00
  | .quartile => 0b11
  | .high => 0b10

/-- `format_word(l, mask)` (R206). -/
def formatWord (lvl : Level) (mask : Nat) : Nat :=
  let data5 := (ecIndicator lvl <<< 3) ||| mask
  ((data5 <<< 10) ||| bchRem data5 g15 10) ^^^ g15Mask

/-- `version_word(v)` (R209). -/
def versionWord (v : Nat) : Nat := (v <<< 12) ||| bchRem v g18 12

/-- The row in column 8 of bit `i` of the format word, copy 1 (R207). -/
def formatRow (n i : Nat) : Nat := if i < 6 then i else if i < 8 then i + 1 else n - 15 + i

/-- The column in row 8 of bit `i` of the format word, copy 2 (R207). -/
def formatCol (n i : Nat) : Nat := if i < 8 then n - 1 - i else if i = 8 then 7 else 14 - i

/-- The value of a format or version cell: LIGHT in a trial, the bit otherwise (R207, R210, R211). -/
def infoCell (test : Bool) (w i : Nat) : Module := Module.ofBool (!test && w.testBit i)

/-- Both copies of the format word (R207). -/
def formatWrites (n w : Nat) (test : Bool) : List (Nat × Nat × Module) :=
  (List.range 15).flatMap (fun i => [(formatRow n i, 8, infoCell test w i), (8, formatCol n i, infoCell test w i)])

/-- The dark module, light in a trial (R208, D28). -/
def darkModuleWrite (n : Nat) (test : Bool) : Nat × Nat × Module := (n - 8, 8, Module.ofBool (!test))

/-- Both copies of the version word, for `v ≥ 7` (R210). -/
def versionWrites (n v : Nat) (test : Bool) : List (Nat × Nat × Module) :=
  if v < 7 then []
  else
    (List.range 18).flatMap (fun i =>
      [(i / 3, n - 11 + i % 3, infoCell test (versionWord v) i),
       (n - 11 + i % 3, i / 3, infoCell test (versionWord v) i)])

/-- `structural(v, l, mask, test)` (R200, R201): finder, alignment, timing, then format, dark module and version. -/
def structural (v : Nat) (lvl : Level) (mask : Fin 8) (test : Bool) : Grid :=
  let n := sideOf v
  let g := placeTiming (placeAligns (placeFinders (Grid.blank n) n) v) n
  let g := g.write (formatWrites n (formatWord lvl mask.val) test)
  let g := g.write [darkModuleWrite n test]
  g.write (versionWrites n v test)

/-! ## Commands -/

/-- FORMAT_BITS (R212). -/
def execFormatBits (s : State) : Result :=
  match Level.ofCode? s.arg0, maskIndex? s.arg1 with
  | some lvl, some m => succeed s (Quad.one (word (formatWord lvl m.val)))
  | _, _ => raise .domain s

/-- VERSION_BITS (R213). -/
def execVersionBits (s : State) : Result :=
  if 7 ≤ s.arg0 ∧ s.arg0 ≤ Config.vmax then succeed s (Quad.one (word (versionWord s.arg0))) else raise .domain s

/-- Coordinates `p[j], p[j+1], ...` packed a byte each, the first in bits 7:0; entries past the list read 0 (R214). -/
def packCoords (p : List Nat) (j n : Nat) : Nat :=
  ((List.range n).map (fun k => p.getD (j + k) 0 <<< (8 * k))).foldl (fun a b => a ||| b) 0

/-- ALIGN_POS (R214). -/
def execAlignPos (s : State) : Result :=
  if versionOk s.arg0 then
    let p := alignCoords s.arg0
    succeed s ⟨word p.length, word (packCoords p 0 4), word (packCoords p 4 3), 0⟩
  else raise .domain s

end Sys2Proof.Machine
end

