-- ==== Sys2Proof/Machine/Mapper.lean ====
section
/-! DEFINITION. The eight masks, the zig-zag data mapper, the render and the penalty scorer, with the commands RENDER, PENALTY
and MASK_EVAL (spec rules R230 to R248). -/

namespace Sys2Proof.Machine

/-! ## Mask functions -/

/-- `mask_fn(m, i, j)`, row `i`, column `j`: whether to invert (R230). -/
def maskFn (m : Fin 8) (i j : Nat) : Bool :=
  match m with
  | 0 => (i + j) % 2 == 0
  | 1 => i % 2 == 0
  | 2 => j % 3 == 0
  | 3 => (i + j) % 3 == 0
  | 4 => (i / 2 + j / 3) % 2 == 0
  | 5 => (i * j) % 2 + (i * j) % 3 == 0
  | 6 => ((i * j) % 2 + (i * j) % 3) % 2 == 0
  | 7 => ((i * j) % 3 + (i + j) % 2) % 2 == 0

/-! ## Zig-zag mapping -/

/-- The right columns of the pairs visited, from column `col` leftward, column 6 skipped (R231). -/
def pairColumns : Nat → Nat → List Nat
  | 0, _ => []
  | fuel + 1, col =>
    if col = 0 then []
    else
      let c := if col = 6 then 5 else col
      c :: pairColumns fuel (c - 2)

/-- The cells of one column pair in order: upward from the bottom row, or downward from the top row; at each row the right
cell before the left (R231). -/
def pairCells (n col : Nat) (up : Bool) : List (Nat × Nat) :=
  (List.range n).flatMap (fun k =>
    let row := if up then n - 1 - k else k
    [(row, col), (row, col - 1)])

/-- The pairs in order, upward and downward alternately (R231). -/
def zigzagFrom (n : Nat) (up : Bool) : List Nat → List (Nat × Nat)
  | [] => []
  | c :: cs => pairCells n c up ++ zigzagFrom n (!up) cs

/-- The traversal of a grid of side `n`: the first pair is `(n-1, n-2)`, upward (R231). -/
def zigzag (n : Nat) : List (Nat × Nat) := zigzagFrom n true (pairColumns n (n - 1))

/-- `bit(k)`: the codeword bits MSB-first, 0 past the last codeword (R232). -/
def codewordBit (cw : List Byte) (k : Nat) : Bool := (cw.getD (k / 8) 0).toNat.testBit (7 - k % 8)

/-- The mapper along a list of cells, with the bit counter `k`: only cells left unset are filled, with the masked bit (R231,
R233). -/
def mapCells (cw : List Byte) (m : Fin 8) (g : Grid) (k : Nat) : List (Nat × Nat) → Grid
  | [] => g
  | (r, c) :: cells =>
    if g.cell r c = .unset then
      mapCells cw m (g.setCell r c (Module.ofBool (codewordBit cw k != maskFn m r c))) (k + 1) cells
    else mapCells cw m g k cells

/-- `render(v, l, CW, m, test)` (R234), from a fresh grid. -/
def render (v : Nat) (lvl : Level) (cw : List Byte) (m : Fin 8) (test : Bool) : Grid :=
  mapCells cw m (structural v lvl m test) 0 (zigzag (sideOf v))

/-! ## Penalty scoring -/

/-- Rows and columns of a grid of side `n`. -/
def cellsOf (n : Nat) : List (Nat × Nat) := (List.range n).flatMap (fun r => (List.range n).map (fun c => (r, c)))

/-- The neighbours of a cell in the 3×3 window, itself excluded, inside the grid (R240, D31). -/
def neighbours (n r c : Nat) : List (Nat × Nat) :=
  (List.range 3).flatMap (fun i => (List.range 3).filterMap (fun j =>
    if (i = 1 ∧ j = 1) ∨ r + i = 0 ∨ c + j = 0 ∨ n < r + i ∨ n < c + j then none
    else some (r + i - 1, c + j - 1)))

/-- What one cell adds to level 1 (R240). -/
def cellScore (g : Grid) (n r c : Nat) : Nat :=
  let same := (neighbours n r c).countP (fun p => g.cell p.1 p.2 == g.cell r c)
  if 5 < same then 3 + (same - 5) else 0

/-- Level 1, neighbours (R240). -/
def penalty1 (g : Grid) (n : Nat) : Nat := ((cellsOf n).map (fun p => cellScore g n p.1 p.2)).sum

/-- Whether the 2×2 block at `(r, c)` has one colour (R241). -/
def blockAlike (g : Grid) (r c : Nat) : Bool :=
  g.cell r c == g.cell (r + 1) c && g.cell r c == g.cell r (c + 1) && g.cell r c == g.cell (r + 1) (c + 1)

/-- Level 2, blocks (R241). -/
def penalty2 (g : Grid) (n : Nat) : Nat := 3 * (cellsOf (n - 1)).countP (fun p => blockAlike g p.1 p.2)

/-- PAT, the finder-like run (R242). -/
def finderRun : List Module := [.dark, .light, .dark, .dark, .dark, .light, .dark]

/-- Whether PAT stands at column `c` of row `r` (R242). -/
def runInRow (g : Grid) (r c : Nat) : Bool := (List.range 7).map (fun t => g.cell r (c + t)) == finderRun

/-- Whether PAT stands at row `r` of column `c` (R242). -/
def runInCol (g : Grid) (r c : Nat) : Bool := (List.range 7).map (fun t => g.cell (r + t) c) == finderRun

/-- Level 3, finder-like runs in rows and columns (R242). -/
def penalty3 (g : Grid) (n : Nat) : Nat :=
  let starts := List.range (n - 6)
  let lines := List.range n
  40 * ((lines.map (fun r => starts.countP (fun c => runInRow g r c))).sum +
    (lines.map (fun c => starts.countP (fun r => runInCol g r c))).sum)

/-- The dark count `D` (R243). -/
def darkCount (g : Grid) (n : Nat) : Nat := (cellsOf n).countP (fun p => g.cell p.1 p.2 == .dark)

/-- The four numbers PENALTY reports (R247). -/
structure Score where
  p1 : Nat
  p2 : Nat
  p3 : Nat
  dark : Nat
  deriving DecidableEq, Repr

/-- The score of a grid of side `n` (R240 to R243). -/
def score (g : Grid) (n : Nat) : Score := ⟨penalty1 g n, penalty2 g n, penalty3 g n, darkCount g n⟩

/-- `P1 + P2 + P3` (R46, R244). -/
def Score.p123 (x : Score) : Nat := x.p1 + x.p2 + x.p3

/-- `Q = T·(P1 + P2 + P3) + |200·D − 100·T|`, with `T = n²`: level 4 exact, no floor and no rounding (R243, R244). -/
def Score.q (x : Score) (n : Nat) : Nat :=
  n * n * x.p123 + (200 * (x.dark : Int) - 100 * ((n * n : Nat) : Int)).natAbs

/-- The best of the trials that follow: a strictly lower `Q` replaces the best so far (R245). -/
def bestFrom (best : Fin 8) (qBest : Nat) : List (Fin 8 × Nat) → Fin 8
  | [] => best
  | (m, q) :: rest => if qBest > q then bestFrom m q rest else bestFrom best qBest rest

/-- Best-mask selection over the trials in mask order (R245): the lowest index of the least `Q`. -/
def bestMask : List (Fin 8 × Nat) → Fin 8
  | [] => 0
  | (m, q) :: rest => bestFrom m q rest

/-- The mask indices in order. -/
def maskIndices : List (Fin 8) := [0, 1, 2, 3, 4, 5, 6, 7]

/-- The scores of the eight trial renders, in mask order (R245). -/
def trialScores (v : Nat) (lvl : Level) (cw : List Byte) : List Score :=
  maskIndices.map (fun m => score (render v lvl cw m true) (sideOf v))

/-! ## Commands -/

/-- RENDER (R246): STATE first, then the mask, then the test flag. -/
def execRender (s : State) : Result :=
  if s.symState ≠ .made then raise .state s
  else
    match maskIndex? s.arg0 with
    | none => raise .domain s
    | some m =>
      if 1 < s.arg1 then raise .domain s
      else
        succeed
          { s with grid := render s.versionEff s.level s.cw m (s.arg1 == 1), final := false }
          (Quad.one (word m.val))

/-- PENALTY (R247). -/
def execPenalty (s : State) : Result :=
  if s.symState ≠ .made then raise .state s
  else
    let x := score s.grid s.moduleCount
    succeed s ⟨word x.p1, word x.p2, word x.p3, word x.dark⟩

/-- MASK_EVAL (R248). -/
def execMaskEval (s : State) : Result :=
  match maskIndex? s.arg0 with
  | none => raise .domain s
  | some m =>
    if 255 < s.arg1 ∨ 255 < s.arg2 then raise .domain s
    else succeed s (Quad.one (word (maskFn m s.arg1 s.arg2).toNat))

end Sys2Proof.Machine
end

