-- ==== Sys2Proof/Machine/Symbol.lean ====
section
/-! DEFINITION. The symbol sequencer: NOP, CREATE, MAKE and IS_DARK (spec rules R260 to R267). -/

namespace Sys2Proof.Machine

/-- NOP (R264). -/
def execNop (s : State) : Result := succeed s Quad.zero

/-- The writes of a successful CREATE (R260). -/
def State.newSymbol (s : State) (v : Nat) (lvl : Level) : State :=
  { s.clearStage.clearMade with
    versionReq := v, level := lvl, segs := [], symState := .empty, final := false }

/-- CREATE (R260): the version first, then the level. -/
def execCreate (s : State) : Result :=
  if Config.vmax < s.arg0 then raise .domain s
  else
    match Level.ofCode? s.arg1 with
    | none => raise .invalidLevel s
    | some lvl => succeed (s.newSymbol s.arg0 lvl) Quad.zero

/-- What a successful MAKE finds (R261). -/
structure Symbol where
  version : Nat
  mask : Fin 8
  codewords : List Byte
  dataBits : Nat
  scores : List Score
  grid : Grid
  deriving DecidableEq, Repr

/-- The version MAKE builds: the one asked for, or the first that fits (R261); none is CAPACITY. -/
def resolveVersion? (req : Nat) (segs : List Segment) (lvl : Level) : Option Nat :=
  if req ≠ 0 then some req else selectVersion? segs lvl

/-- The trials, the choice of the mask and the committed render, for assembled codewords (R245, R261, R262). -/
def buildSymbol (v : Nat) (lvl : Level) (cw : List Byte) (db : Nat) : Symbol :=
  let scores := trialScores v lvl cw
  let best := bestMask (maskIndices.zip (scores.map (fun x => x.q (sideOf v))))
  { version := v, mask := best, codewords := cw, dataBits := db, scores := scores
    grid := render v lvl cw best false }

/-- The steps of MAKE (R261, R262): a function of VERSION_REQ, LEVEL and SEGS alone. -/
def makeSymbol (req : Nat) (lvl : Level) (segs : List Segment) : Except ErrCode Symbol :=
  match resolveVersion? req segs lvl with
  | none => .error .capacity
  | some v =>
    match assemble segs v lvl with
    | .error e => .error e
    | .ok (cw, db) => .ok (buildSymbol v lvl cw db)

/-- The writes of a successful MAKE (R261). -/
def State.commit (s : State) (x : Symbol) : State :=
  { s with
    grid := x.grid, cw := x.codewords
    versionEff := x.version, moduleCount := sideOf x.version, mask := x.mask, dataBits := x.dataBits
    trialP123 := x.scores.map Score.p123, trialDark := x.scores.map Score.dark
    symState := .made, final := true }

/-- MAKE (R261). -/
def execMake (s : State) : Result :=
  match makeSymbol s.versionReq s.level s.segs with
  | .error e => raise e s
  | .ok x => succeed (s.commit x) ⟨word x.version, word x.mask.val, word (sideOf x.version), word x.dataBits⟩

/-- IS_DARK (R263). -/
def execIsDark (s : State) : Result :=
  if s.symState ≠ .made ∨ s.moduleCount ≤ s.arg0 ∨ s.moduleCount ≤ s.arg1 then raise .outOfBounds s
  else succeed s (Quad.one (word (if s.grid.cell s.arg0 s.arg1 = .dark then 1 else 0)))

end Sys2Proof.Machine
end

