-- ==== Sys2Proof/Machine/Dispatch.lean ====
section
/-! DEFINITION. One arm per command: the outcome of a command whose word was accepted (spec rules R83, R283). -/

namespace Sys2Proof.Machine

def exec (i : Instr) (s : State) : Host.Outcome State Fault Refusal :=
  match i with
  | .nop => Sys2Proof.Machine.execNop s
  | .create => Sys2Proof.Machine.execCreate s
  | .addData => Sys2Proof.Machine.execAddData s
  | .make => Sys2Proof.Machine.execMake s
  | .isDark => Sys2Proof.Machine.execIsDark s
  | .stageClear => Sys2Proof.Machine.execStageClear s
  | .gfExp => Sys2Proof.Machine.execGfExp s
  | .gfLog => Sys2Proof.Machine.execGfLog s
  | .gfMul => Sys2Proof.Machine.execGfMul s
  | .polyConstruct => Sys2Proof.Machine.execPolyConstruct s
  | .polyMul => Sys2Proof.Machine.execPolyMul s
  | .polyMod => Sys2Proof.Machine.execPolyMod s
  | .polyMove => Sys2Proof.Machine.execPolyMove s
  | .rsGen => Sys2Proof.Machine.execRsGen s
  | .rsEncode => Sys2Proof.Machine.execRsEncode s
  | .ecPlan => Sys2Proof.Machine.execEcPlan s
  | .rawModules => Sys2Proof.Machine.execRawModules s
  | .ccw => Sys2Proof.Machine.execCcw s
  | .bbClear => Sys2Proof.Machine.execBbClear s
  | .bbPut => Sys2Proof.Machine.execBbPut s
  | .bbPutbit => Sys2Proof.Machine.execBbPutbit s
  | .bbGetbit => Sys2Proof.Machine.execBbGetbit s
  | .render => Sys2Proof.Machine.execRender s
  | .penalty => Sys2Proof.Machine.execPenalty s
  | .maskEval => Sys2Proof.Machine.execMaskEval s
  | .formatBits => Sys2Proof.Machine.execFormatBits s
  | .versionBits => Sys2Proof.Machine.execVersionBits s
  | .alignPos => Sys2Proof.Machine.execAlignPos s

end Sys2Proof.Machine
end

