-- ==== Sys2Proof/Machine/Bus.lean ====
section
/-! DEFINITION. The host port: the register map (spec rules R21 to R46, R60 to R64), reads and writes of it idle and busy
(R62, R67, R311, R320, R321), and a host event (R63, R310). -/

namespace Sys2Proof.Machine

/-! ## The register map -/

/-- A register or window entry of the map (R21). -/
inductive Reg where
  | id
  | ctrl
  | status
  | cmd
  | arg (i : Fin 4)
  | res (i : Fin 4)
  | versionReq
  | level
  | versionEff
  | moduleCount
  | mask
  | cwLen
  | dataBits
  | segCount
  | stageLen
  | segClass
  | segFifo
  | bbLen
  | winLen (w : Win)
  | rLen
  | segBytes
  | trialP123 (m : Nat)
  | trialDark (m : Nat)
  | winCell (w : Win) (i : Nat)
  | rCell (i : Nat)
  | bbByte (i : Nat)
  | cwByte (i : Nat)
  /-- Every other offset (R21, R62). -/
  | unmapped
  deriving DecidableEq, Repr

/-- The control registers, offsets 0x000 to 0x06C (R21). -/
def controlReg (a : Nat) : Reg :=
  match a with
  | 0x000 => .id
  | 0x004 => .ctrl
  | 0x008 => .status
  | 0x00C => .cmd
  | 0x010 => .arg 0
  | 0x014 => .arg 1
  | 0x018 => .arg 2
  | 0x01C => .arg 3
  | 0x020 => .res 0
  | 0x024 => .res 1
  | 0x028 => .res 2
  | 0x02C => .res 3
  | 0x030 => .versionReq
  | 0x034 => .level
  | 0x038 => .versionEff
  | 0x03C => .moduleCount
  | 0x040 => .mask
  | 0x044 => .cwLen
  | 0x048 => .dataBits
  | 0x04C => .segCount
  | 0x050 => .stageLen
  | 0x054 => .segClass
  | 0x058 => .segFifo
  | 0x05C => .bbLen
  | 0x060 => .winLen .a
  | 0x064 => .winLen .b
  | 0x068 => .rLen
  | 0x06C => .segBytes
  | _ => .unmapped

/-- The register at an offset that is a multiple of 4 (R21, R61). -/
def regAt (a : Nat) : Reg :=
  if a < 0x080 then controlReg a
  else if a < 0x0A0 then .trialP123 ((a - 0x080) / 4)
  else if a < 0x0C0 then .trialDark ((a - 0x0A0) / 4)
  else if a < 0x0400 then .unmapped
  else if a < 0x0800 then .winCell .a ((a - 0x0400) / 4)
  else if a < 0x0C00 then .winCell .b ((a - 0x0800) / 4)
  else if a < 0x1000 then .rCell ((a - 0x0C00) / 4)
  else if a < 0x2000 then .bbByte ((a - 0x1000) / 4)
  else if a < 0x4000 then .unmapped
  else .cwByte ((a - 0x4000) / 4)

/-- The port offset of a host address, when the block is what the address selects (R61). -/
def hostToPort? (addr : Nat) : Option Offset :=
  if Config.qrcBase ≤ addr ∧ addr < Config.qrcBase + 32768 then some (BitVec.ofNat 15 (addr - Config.qrcBase)) else none

/-! ## Reads -/

/-- Register `i` of four. -/
def Quad.get (q : Quad) (i : Fin 4) : Word :=
  match i with
  | 0 => q.w0
  | 1 => q.w1
  | 2 => q.w2
  | 3 => q.w3

/-- A write of register `i` of four. -/
def Quad.set (q : Quad) (i : Fin 4) (v : Word) : Quad :=
  match i with
  | 0 => { q with w0 := v }
  | 1 => { q with w1 := v }
  | 2 => { q with w2 := v }
  | 3 => { q with w3 := v }

/-- What a register holds for a reader while no command runs (R22 to R46): write-only and unmapped offsets read 0 (R21, R62),
and so do the entries of R, BB and CW past their lengths (R42, R43, R45). -/
def State.regValue (s : State) : Reg → Word
  | .id => Config.idValue
  | .ctrl => s.ctrlWord
  | .status => s.statusWord
  | .cmd => 0
  | .arg i => s.arg.get i
  | .res i => s.res.get i
  | .versionReq => word s.versionReq
  | .level => word s.level.code
  | .versionEff => word s.versionEff
  | .moduleCount => word s.moduleCount
  | .mask => word s.mask.val
  | .cwLen => word s.cwLen
  | .dataBits => word s.dataBits
  | .segCount => word s.segCount
  | .stageLen => word s.stageLen
  | .segClass => word s.segClass
  | .segFifo => 0
  | .bbLen => word s.bbLen
  | .winLen w => word (s.winLen w)
  | .rLen => word s.rLen
  | .segBytes => word s.segBytes
  | .trialP123 m => word (s.trialP123.getD m 0)
  | .trialDark m => word (s.trialDark.getD m 0)
  | .winCell w i => word (s.cell (w.offset i)).toNat
  | .rCell i => word (s.r.getD i 0).toNat
  | .bbByte i => word (bufByte s.bb i).toNat
  | .cwByte i => word (s.cw.getD i 0).toNat
  | .unmapped => 0

/-- What reads as defined while BUSY = 1: ID, CTRL and STATUS (R321), and an offset with no register, which reads 0 (R62). -/
def Reg.readableBusy : Reg → Bool
  | .id => true
  | .ctrl => true
  | .status => true
  | .unmapped => true
  | _ => false

/-- A word read at an aligned offset. Idle, or of ID, CTRL, STATUS or an unmapped offset: the value, with no side effect (R67). Busy,
of any other register: unspecified, the next free value (R321, U3; log entry 4). -/
def State.busRead (s : State) (a : Nat) : State :=
  if s.busy && !(regAt a).readableBusy then { s with rdata := Config.freeRead s.free a, free := s.free + 1 }
  else { s with rdata := s.regValue (regAt a) }

/-! ## Writes -/

/-- A write of CTRL, idle or busy: SRST resets whatever bit 1 is; otherwise IRQ_EN takes bit 1 (R23, R311). -/
def State.writeCtrl (s : State) (v : Word) : State :=
  if wordBit v 0 then s.afterReset else { s with irqEn := wordBit v 1 }

/-- A write of STATUS, idle or busy: DONE and CMD_OVF are cleared by a 1 (R24). -/
def State.writeStatus (s : State) (v : Word) : State :=
  { s with done := s.done && !wordBit v 1, cmdOvf := s.cmdOvf && !wordBit v 6 }

/-- A write of SEG_FIFO, idle (R39): the byte is appended, or dropped with STAGE_OVF when STAGE is full. -/
def State.pushByte (s : State) (v : Word) : State :=
  if s.stageLen < Config.stageMax then { s with stage := s.stage ++ [lowByte v] } else { s with stageOvf := true }

/-- A write of A_LEN or B_LEN, idle: a value above 256 is ignored (R43, D44). -/
def State.writeLen (s : State) (w : Win) (v : Word) : State :=
  if v.toNat ≤ Config.polyMax then s.setWinLen w v.toNat else s

/-- A write that is ignored because BUSY = 1 (R320). -/
def State.overrun (s : State) : State := { s with cmdOvf := true }

/-- A word written at an aligned offset (R21 to R46, R320): CTRL and STATUS act idle or busy; CMD, ARG, SEG_FIFO, A_LEN, B_LEN
and the cells of A and B act idle and set CMD_OVF busy; every other write is ignored (R62). -/
def State.busWrite (s : State) (a : Nat) (v : Word) : State :=
  match regAt a with
  | .ctrl => s.writeCtrl v
  | .status => s.writeStatus v
  | .cmd => if s.busy then s.overrun else s.accept v
  | .arg i => if s.busy then s.overrun else { s with arg := s.arg.set i v }
  | .segFifo => if s.busy then s.overrun else s.pushByte v
  | .winLen w => if s.busy then s.overrun else s.writeLen w v
  | .winCell w i => if s.busy then s.overrun else s.setCell (w.offset i) (lowByte v)
  | _ => s

/-! ## A host event -/

/-- Why the port refuses an access (R63, U4): only aligned word accesses are admitted. -/
def accessRefusal? (size : AccessSize) (a : Nat) : Option Refusal :=
  match size with
  | .word => if a % 4 = 0 then none else some .misalignedAccess
  | .half => some .narrowAccess
  | .byte => some .narrowAccess

/-- The effect of one host event on the block. -/
def State.hostEvent (s : State) : HostEvent → Result
  | .read size a =>
    match accessRefusal? size a.toNat with
    | some r => .refused r
    | none => .next (s.busRead a.toNat)
  | .write size a v =>
    match accessRefusal? size a.toNat with
    | some r => .refused r
    | none => .next (s.busWrite a.toNat v)
  | .idle => .next s
  | .resetPin => .next s.afterReset

end Sys2Proof.Machine
end

