-- ==== Sys2Proof/Machine/Sequencer.lean ====
section
/-! DEFINITION. The sequencer and one bus cycle (spec rules R70, R80, R282, R283, R330), over the meaning of commands `run`,
which Machine/Step.lean gives. -/

namespace Sys2Proof.Machine

/-- A word that names no command ends with ILLEGAL_CMD (R80, R84). -/
def execIllegal (s : State) : Result := raise .illegalCmd s

/-- The accepted word is decoded and executed, to completion (R80, R282, R283). -/
def finish (run : Instr → State → Result) (w : Word) (s : State) : Result :=
  match decodeWord w with
  | .ok i => run i s
  | .error _ => execIllegal s

/-- The end of a cycle: a command in progress completes when its latency is over (R330; log entries 1 and 12). -/
def tick (run : Instr → State → Result) (s : State) : Result :=
  match s.running with
  | none => .next s
  | some c => if c.left ≤ 1 then finish run c.cmd s else .next { s with running := some ⟨c.cmd, c.left - 1⟩ }

/-- `s` with the events `rest` still to come. -/
def State.withEvents (s : State) (rest : List HostEvent) : State := { s with events := rest }

/-- One bus cycle: the oldest host event acts, then the cycle ends. With no event to come the cycle is idle (log entry 12). -/
def cycle (run : Instr → State → Result) (s : State) : Result :=
  match s.events with
  | [] => tick run s
  | e :: rest =>
    match (s.withEvents rest).hostEvent e with
    | .next s' => tick run s'
    | .fault f => .fault f
    | .refused r => .refused r

/-- The offset of CMD (R25). -/
def cmdOffset : Offset := 0x00C

/-- `s` with the host's write of the command word `w` as its next event, no command in progress, and LATENCY 1 for it. -/
def State.withCommand (s : State) (w : Word) : State :=
  { s with
    events := .write .word cmdOffset w :: s.events, running := none, latencies := 0 :: s.latencies }

end Sys2Proof.Machine
end

