-- ==== Sys2Proof/Machine/Step.lean ====
section
/-! DEFINITION. One step of the block: one bus cycle (Machine/Sequencer.lean), with `exec` as the meaning of commands. -/

namespace Sys2Proof.Machine

/-- One step: the next host event and, when a command's latency is over, its completion. -/
def step (s : State) : Host.Outcome State Fault Refusal := cycle exec s

/-- `s` with the command word `w` where the next step takes its instruction: the block has no program counter and no
instruction memory (spec rule R27), its instruction stream is the host's writes to CMD, so the word becomes the next of them
(log entry 2). -/
def State.withFetchWord (s : State) (nbits w : Nat) : State := s.withCommand (BitVec.ofNat 32 (w % 2 ^ nbits))

end Sys2Proof.Machine
end

