-- ==== Sys2Proof/Machine/Qrasm.lean ====
section
/-! DEFINITION. The host notation `qrasm` (spec rules R85, R86): the host events each statement stands for. -/

namespace Sys2Proof.Machine.Qrasm

/-- `wr NAME, value`: one aligned 32-bit write, at the offset of the name (R85). -/
def wr (a : Offset) (v : Word) : List HostEvent := [.write .word a v]

/-- `rd NAME`: one aligned 32-bit read (R85). -/
def rd (a : Offset) : List HostEvent := [.read .word a]

/-- `cmd MNEMONIC` (R85). -/
def cmd (i : Instr) : List HostEvent := wr cmdOffset (encode i)

/-- `wait` that polls STATUS `n` times: how often it must is the latency's (R85, R330). -/
def wait (n : Nat) : List HostEvent := List.replicate n (.read .word 0x008)

/-- The offset of ARG`k` (R21). -/
def argOffset (k : Nat) : Offset := BitVec.ofNat 15 (0x010 + 4 * k)

/-- `wr ARG0, a0` / `wr ARG1, a1` / ..., only as many as given, from ARG`k` on (R86). -/
def args (k : Nat) : List Word → List HostEvent
  | [] => []
  | a :: as => wr (argOffset k) a ++ args (k + 1) as

/-- `MNEMONIC a0, a1, a2` (R86), with `n` polls in its `wait`. -/
def call (i : Instr) (as : List Word) (n : Nat) : List HostEvent := args 0 as ++ cmd i ++ wait n

/-- `stage b0, b1, ...` (R86). -/
def stage (bs : List Byte) : List HostEvent := bs.flatMap (fun b => wr 0x058 (word b.toNat))

/-- `wr W[i], c` for each coefficient from cell `i` on (R86). -/
def cellsFrom (w : Win) (i : Nat) : List Byte → List HostEvent
  | [] => []
  | c :: cs => wr (BitVec.ofNat 15 (w.offset i)) (word c.toNat) ++ cellsFrom w (i + 1) cs

/-- The offset of A_LEN or B_LEN (R21). -/
def lenOffset : Win → Offset
  | .a => 0x060
  | .b => 0x064

/-- `ldpoly W, [c0, ..., ck]` (R86). -/
def ldpoly (w : Win) (cs : List Byte) : List HostEvent := cellsFrom w 0 cs ++ wr (lenOffset w) (word cs.length)

/-- `check`: the read whose bits 15:8 the program expects to be 0 (R86). -/
def check : List HostEvent := rd 0x008

end Sys2Proof.Machine.Qrasm
end

