-- ==== Sys2Proof/Safety.lean ====
section
/-! DEFINITION. What a safe step is, and the invariant of the block that every step keeps: what the spec says of every state a
run reaches. -/

namespace Sys2Proof.Machine

/-- A step that neither faults nor is refused. -/
def Result.isNext : Result → Prop
  | .next _ => True
  | .fault _ => False
  | .refused _ => False

/-- The registers of the made symbol are 0 and FINAL is 0 (R31 to R35, R46, R47). -/
def State.madeCleared (s : State) : Prop :=
  s.versionEff = 0 ∧ s.moduleCount = 0 ∧ s.mask = 0 ∧ s.dataBits = 0 ∧ s.cw = [] ∧
    s.trialP123 = List.replicate 8 0 ∧ s.trialDark = List.replicate 8 0 ∧ s.final = false

/-- The registers of the made symbol describe what MAKE finds for VERSION_REQ, LEVEL and SEGS, and with FINAL = 1 the grid is
the committed render (R31 to R35, R46, R47, R261). -/
def State.madeHolds (s : State) : Prop :=
  ∃ x, makeSymbol s.versionReq s.level s.segs = .ok x ∧
    s.versionEff = x.version ∧ s.moduleCount = sideOf x.version ∧ s.mask = x.mask ∧ s.dataBits = x.dataBits ∧
    s.cw = x.codewords ∧ s.trialP123 = x.scores.map Score.p123 ∧ s.trialDark = x.scores.map Score.dark ∧
    (s.final = true → s.grid = x.grid)

/-- The invariant of the block. -/
structure State.Inv (s : State) : Prop where
  /-- The cells of A and B are in canonical form. -/
  cellsWf : s.cells.wf = true
  /-- Only cells of windows A and B are listed (R21). -/
  cellsInWindows : ∀ p ∈ s.cells, 0x0400 ≤ p.1 ∧ p.1 < 0x0C00 ∧ p.1 % 4 = 0
  /-- A_LEN, B_LEN and R_LEN are 0..256 (R43). -/
  aLen : s.aLen ≤ Config.polyMax
  bLen : s.bLen ≤ Config.polyMax
  rLen : s.rLen ≤ Config.polyMax
  /-- BB_LEN is 0..BB_MAX_BITS (R42). -/
  bbLen : s.bbLen ≤ Config.bbMaxBits
  /-- STAGE_LEN is 0..STAGE_MAX (R37), and STAGE_OVF tells that STAGE was full (R39). -/
  stageLen : s.stageLen ≤ Config.stageMax
  stageOvf : s.stageOvf = true → s.stageLen = Config.stageMax
  /-- SEGS holds at most SEG_MAX records and SEG_STORE_BYTES bytes, each valid in its mode (R41, R150). -/
  segCount : s.segCount ≤ Config.segMax
  segBytes : s.segBytes ≤ Config.segStoreBytes
  segsValid : ∀ g ∈ s.segs, validIn g.mode g.bytes = true
  /-- VERSION_REQ is 0..40 (R29). -/
  versionReq : s.versionReq ≤ Config.vmax
  /-- In EMPTY there is no segment (R47). -/
  empty : s.symState = .empty → s.segs = []
  /-- Outside MADE the registers of the made symbol are 0; in MADE they describe it (R31 to R35, R46). -/
  notMade : s.symState ≠ .made → s.madeCleared
  made : s.symState = .made → s.madeHolds
  /-- A command in progress has cycles left, and DONE is 0 while it runs (R282, R330). -/
  running : ∀ c, s.running = some c → 1 ≤ c.left ∧ s.done = false

end Sys2Proof.Machine
end

