-- ==== Sys2Proof/Certificates/Slice0/Obligations.lean ====
section
/-! DEFINITION. The statements for the provers. Each docstring names the rule of the spec it formalises. In a statement about a
command the next state is written out as a record update of the state before it, so that it says the command's whole frame. -/

open Sys2Proof Sys2Proof.Machine

/-- The value of a polynomial at a field element, highest order first (R15, R107). -/
def Sys2Proof.Machine.polyEval (p : Poly) (x : Byte) : Byte := p.foldl (fun acc c => gmul acc x ^^^ c) 0

/-- The coefficient of `x^k` of a polynomial (R15). -/
def Sys2Proof.Machine.polyCoeff (p : Poly) (k : Nat) : Byte := p.reverse.getD k 0

/-- `s` once the command word `w` is accepted with LATENCY 1 and `rest` still to come: BUSY = 1, DONE = 0 (R282). -/
def Sys2Proof.Machine.State.accepted (s : State) (w : Word) (rest : List HostEvent) : State :=
  { s with events := rest, latencies := s.latencies.tail, running := some ⟨w, 1⟩, done := false }

/-- `s` is idle, its next event is the host's write of `w` to CMD, and the command has LATENCY 1 (R25, R282, R330). -/
def Sys2Proof.Machine.State.issues (s : State) (w : Word) (rest : List HostEvent) : Prop :=
  s.running = none ∧ s.events = .write .word 0x00C w :: rest ∧ s.latencies.headD 0 = 0

/-- The command ends with error `e`: the state before it but for RES, all 0, and STATUS (R284). -/
def Sys2Proof.Machine.EndsWith (i : Instr) (s : State) (e : ErrCode) : Prop :=
  exec i s = .next { s with res := ⟨0, 0, 0, 0⟩, err := e, running := none, done := true }

/-- The command ends well and changes nothing but RES and STATUS (R28, R283). -/
def Sys2Proof.Machine.Answers (i : Instr) (s : State) (q : Quad) : Prop :=
  exec i s = .next { s with res := q, err := .ok, running := none, done := true }

/-- What the end of a cycle makes of `u`, whose command `c` is in progress: with more than one cycle left, one passes (log entry 12);
in the last one the command completes on `u`, a word that names no command with ILLEGAL_CMD (R80, R283). -/
def Sys2Proof.Machine.CycleEnds (c : Running) (u : State) (r : Result) : Prop :=
  (1 < c.left → r = .next { u with running := some ⟨c.cmd, c.left - 1⟩ }) ∧
  (c.left ≤ 1 →
    (∀ i, decodeWord c.cmd = .ok i → r = exec i u) ∧
    (∀ e, decodeWord c.cmd = .error e →
      r = .next { u with res := ⟨0, 0, 0, 0⟩, err := .illegalCmd, running := none, done := true }))

/-- The `n` low bits of a value, most significant first (R65, R173), by division. -/
def Sys2Proof.Machine.msbBits (value n : Nat) : List Bool :=
  (List.range n).map (fun i => decide (value / 2 ^ (n - 1 - i) % 2 = 1))

/-- The 45 characters of R145 in the order of their codes 0..44. -/
def Sys2Proof.Machine.alphabet45 : List Byte :=
  (List.range' 0x30 10 ++ List.range' 0x41 26 ++ [0x20, 0x24, 0x25, 0x2A, 0x2B, 0x2D, 0x2E, 0x2F, 0x3A]).map (BitVec.ofNat 8)

/-- The value of byte pair `k` of a list, high byte first (R148). -/
def Sys2Proof.Machine.pairAt (bs : List Byte) (k : Nat) : Nat := (bs.getD (2 * k) 0).toNat * 256 + (bs.getD (2 * k + 1) 0).toNat

/-- The bits of a segment at version `v` (R155): the mode code in 4 bits, the count modulo its width, the fields of the data. -/
def Sys2Proof.Machine.segmentBits (v : Nat) (g : Segment) : List Bool :=
  msbBits g.mode.code 4 ++
  msbBits ((if g.mode = .kanji then g.bytes.length / 2 else g.bytes.length) % 2 ^ ccw g.mode v) (ccw g.mode v) ++
  (encFields g.mode g.bytes).flatMap (fun f => msbBits f.1 f.2)

/-- The product of two polynomials over GF(2), each held as a number: the XOR of `a` shifted to every bit set in `b` (R206). -/
def Sys2Proof.Machine.carrylessMul (a b : Nat) : Nat :=
  (List.range 16).foldl (fun acc k => if b.testBit k then acc ^^^ (a <<< k) else acc) 0

/-- The cells of a grid of side `n`. -/
def Sys2Proof.Machine.gridCells (n : Nat) : Finset (Nat × Nat) := Finset.range n ×ˢ Finset.range n

/-- The cells of the 3 by 3 window about `p`, itself excluded, inside the grid and of its colour (R240). -/
def Sys2Proof.Machine.alikeAround (g : Grid) (n : Nat) (p : Nat × Nat) : Finset (Nat × Nat) :=
  (gridCells n).filter (fun q =>
    q ≠ p ∧ q.1 ≤ p.1 + 1 ∧ p.1 ≤ q.1 + 1 ∧ q.2 ≤ p.2 + 1 ∧ p.2 ≤ q.2 + 1 ∧ g.cell q.1 q.2 = g.cell p.1 p.2)

/-- The colour of a cell of a finder pattern with its separator, in rows and columns -1 to 7 shifted by 1 (R202). -/
def Sys2Proof.Machine.finderColour (i j : Nat) : Module :=
  if (1 ≤ i ∧ i ≤ 7 ∧ (j = 1 ∨ j = 7)) ∨ (1 ≤ j ∧ j ≤ 7 ∧ (i = 1 ∨ i = 7)) ∨ (3 ≤ i ∧ i ≤ 5 ∧ 3 ≤ j ∧ j ≤ 5) then .dark
  else .light

/-- The register map (R21): what stands at every aligned offset of the port. -/
def Sys2Proof.Machine.RegisterMap : Prop :=
  regAt 0x000 = .id ∧ regAt 0x004 = .ctrl ∧ regAt 0x008 = .status ∧ regAt 0x00C = .cmd ∧
  regAt 0x010 = .arg 0 ∧ regAt 0x014 = .arg 1 ∧ regAt 0x018 = .arg 2 ∧ regAt 0x01C = .arg 3 ∧
  regAt 0x020 = .res 0 ∧ regAt 0x024 = .res 1 ∧ regAt 0x028 = .res 2 ∧ regAt 0x02C = .res 3 ∧
  regAt 0x030 = .versionReq ∧ regAt 0x034 = .level ∧ regAt 0x038 = .versionEff ∧ regAt 0x03C = .moduleCount ∧
  regAt 0x040 = .mask ∧ regAt 0x044 = .cwLen ∧ regAt 0x048 = .dataBits ∧ regAt 0x04C = .segCount ∧
  regAt 0x050 = .stageLen ∧ regAt 0x054 = .segClass ∧ regAt 0x058 = .segFifo ∧ regAt 0x05C = .bbLen ∧
  regAt 0x060 = .winLen .a ∧ regAt 0x064 = .winLen .b ∧ regAt 0x068 = .rLen ∧ regAt 0x06C = .segBytes ∧
  (∀ m < 8, regAt (0x080 + 4 * m) = .trialP123 m ∧ regAt (0x0A0 + 4 * m) = .trialDark m) ∧
  (∀ i < 256, regAt (0x0400 + 4 * i) = .winCell .a i ∧ regAt (0x0800 + 4 * i) = .winCell .b i ∧
    regAt (0x0C00 + 4 * i) = .rCell i) ∧
  (∀ i < 1024, regAt (0x1000 + 4 * i) = .bbByte i) ∧ (∀ i < 4096, regAt (0x4000 + 4 * i) = .cwByte i) ∧
  (∀ a, (0x070 ≤ a ∧ a < 0x080) ∨ (0x0C0 ≤ a ∧ a < 0x0400) ∨ (0x2000 ≤ a ∧ a < 0x4000) → regAt a = .unmapped)

/-- What each register of the map reads as (R22 to R46), with the codes of levels (R30) and errors (R280). -/
def Sys2Proof.Machine.RegisterValues (s : State) : Prop :=
  s.regValue .id = 0x51524337 ∧ s.regValue .cmd = 0 ∧ s.regValue .segFifo = 0 ∧ s.regValue .unmapped = 0 ∧
  (∀ k < 32, (s.regValue .ctrl).getLsbD k = (k == 1 && s.irqEn)) ∧
  ((s.regValue .status).getLsbD 0 = s.running.isSome ∧ (s.regValue .status).getLsbD 1 = s.done ∧
    (s.regValue .status).toNat / 4 % 4 = (match s.symState with | .empty => 0 | .pending => 1 | .made => 2) ∧
    (s.regValue .status).getLsbD 4 = s.final ∧ (s.regValue .status).getLsbD 5 = s.stageOvf ∧
    (s.regValue .status).getLsbD 6 = s.cmdOvf ∧ (s.regValue .status).getLsbD 7 = false ∧
    (s.regValue .status).toNat / 256 = s.err.code) ∧
  [ErrCode.ok, .domain, .illegalChar, .capacity, .invalidMode, .invalidLevel, .outOfBounds, .illegalCmd, .storeFull, .state].map
    ErrCode.code = [0, 1, 2, 3, 4, 5, 6, 7, 8, 9] ∧
  s.regValue (.arg 0) = s.arg.w0 ∧ s.regValue (.arg 1) = s.arg.w1 ∧ s.regValue (.arg 2) = s.arg.w2 ∧
  s.regValue (.arg 3) = s.arg.w3 ∧ s.regValue (.res 0) = s.res.w0 ∧ s.regValue (.res 1) = s.res.w1 ∧
  s.regValue (.res 2) = s.res.w2 ∧ s.regValue (.res 3) = s.res.w3 ∧
  s.regValue .versionReq = BitVec.ofNat 32 s.versionReq ∧ s.regValue .level = BitVec.ofNat 32 s.level.code ∧
  [Level.low, .medium, .quartile, .high].map Level.code = [0, 1, 2, 3] ∧
  s.regValue .versionEff = BitVec.ofNat 32 s.versionEff ∧ s.regValue .moduleCount = BitVec.ofNat 32 s.moduleCount ∧
  s.regValue .mask = BitVec.ofNat 32 s.mask.val ∧ s.regValue .cwLen = BitVec.ofNat 32 s.cw.length ∧
  s.regValue .dataBits = BitVec.ofNat 32 s.dataBits ∧ s.regValue .segCount = BitVec.ofNat 32 s.segs.length ∧
  s.regValue .stageLen = BitVec.ofNat 32 s.stage.length ∧
  (∀ k < 32, (s.regValue .segClass).getLsbD k =
    ((k == 0 && validIn .numeric s.stage) || (k == 1 && validIn .alphanumeric s.stage) || (k == 2 && validIn .kanji s.stage))) ∧
  s.regValue .bbLen = BitVec.ofNat 32 s.bb.length ∧ s.regValue (.winLen .a) = BitVec.ofNat 32 s.aLen ∧
  s.regValue (.winLen .b) = BitVec.ofNat 32 s.bLen ∧ s.regValue .rLen = BitVec.ofNat 32 s.r.length ∧
  s.regValue .segBytes = BitVec.ofNat 32 (s.segs.map (fun g => g.bytes.length)).sum ∧
  (∀ m, s.regValue (.trialP123 m) = BitVec.ofNat 32 (s.trialP123.getD m 0) ∧
    s.regValue (.trialDark m) = BitVec.ofNat 32 (s.trialDark.getD m 0)) ∧
  (∀ i, s.regValue (.winCell .a i) = (s.cell (0x0400 + 4 * i)).setWidth 32 ∧
    s.regValue (.winCell .b i) = (s.cell (0x0800 + 4 * i)).setWidth 32 ∧
    s.regValue (.rCell i) = (s.r.getD i 0).setWidth 32 ∧ s.regValue (.cwByte i) = (s.cw.getD i 0).setWidth 32 ∧
    ∀ k < 32, (s.regValue (.bbByte i)).getLsbD k = (decide (k < 8) && s.bb.getD (8 * i + (7 - k)) false))

/-! ## Reset, the invariant, decoding, the step -/

/-- R50: after a hardware or a soft reset ID reads its constant, SEG_CLASS 7 and every other register and window entry reads 0, but
for the cells of A and B, which R50 leaves unspecified; the sequencer is idle and irq is 0. -/
def Obligations.ResetRegistersReadAsSpecified : Prop :=
  ∀ t : State, (t = State.reset ∨ ∃ s : State, t = s.afterReset) →
    t.regValue .id = 0x51524337 ∧ t.regValue .segClass = 7 ∧ t.running = none ∧ t.irq = false ∧
    ∀ r : Reg, r ≠ .id → r ≠ .segClass → (∀ w i, r ≠ .winCell w i) → t.regValue r = 0

/-- The invariant holds of the state after reset (R50, R310). -/
def Obligations.ResetMeetsInvariant : Prop := State.reset.Inv

/-- Every step keeps the invariant: the canonical form of the cells, the sizes of R11, the registers of the made symbol 0
outside MADE and describing it in MADE, DONE = 0 while busy. The canonical form and the cycles left are the model's (log entries 1
and 3). -/
def Obligations.StepKeepsInvariant : Prop := ∀ s t : State, s.Inv → step s = .next t → t.Inv

/-- R80 to R83 over bytes: the decoder reads exactly the encoded commands, with nothing of the four bytes dropped. -/
def Obligations.DecodeReadsExactlyEncodedCommands : Prop :=
  ∀ (bs : List Byte) (i : Instr) (rest : List Byte), decode bs = .ok (i, rest) ↔ bs = encodeBytes i ++ rest

/-- Words written out from R83's table decode to their commands. -/
def Obligations.TableWordsDecode : Prop :=
  decodeWord 0x00000000 = .ok .nop ∧ decodeWord 0x00000003 = .ok .make ∧ decodeWord 0x00000012 = .ok .gfMul ∧
  decodeWord 0x00000022 = .ok .polyMod ∧ decodeWord 0x00000030 = .ok .ecPlan ∧ decodeWord 0x00000032 = .ok .ccw ∧
  decodeWord 0x00000041 = .ok .bbPut ∧ decodeWord 0x00000050 = .ok .render ∧ decodeWord 0x00000055 = .ok .alignPos

/-- R80: a word with a reserved bit set, or whose opcode is no row of R83, ends with ILLEGAL_CMD and changes nothing but STATUS
and RES; every other word is executed as the command of its row. The events, the latencies and the end of a command of LATENCY 1 in
the step of its write are the model's (log entries 1, 2 and 12); a greater LATENCY is `CommandRunsAfterItsLatency`'s. -/
def Obligations.WordIsExecutedOrEndsIllegal : Prop :=
  ∀ (s : State) (w : Word) (rest : List HostEvent), s.issues w rest →
    (w.toNat / 256 ≠ 0 ∨ (∀ i : Instr, w.toNat % 256 ≠ opcode i) →
      step s = .next { s.accepted w rest with res := ⟨0, 0, 0, 0⟩, err := .illegalCmd, running := none, done := true }) ∧
    (∀ i : Instr, w.toNat / 256 = 0 → w.toNat % 256 = opcode i → step s = exec i (s.accepted w rest))

/-- A step in which an idle block takes a CMD write that decodes runs that command (R25, R282), on the accepted state. The events,
the latencies and the completion in the step of the write are the model's (log entries 1, 2 and 12). -/
def Obligations.StepRunsDecodedCommand : Prop :=
  ∀ (s : State) (w : Word) (rest : List HostEvent) (i : Instr), s.issues w rest → decodeWord w = .ok i →
    step s = exec i (s.accepted w rest)

/-- R282, R283, R330 with LATENCY = n + 1 and no further host event: for n cycles the block is busy with DONE 0 and every other
register as before; in the cycle after them the command runs, or the word that names no command ends with ILLEGAL_CMD. The schedule in
cycles is the model's (log entries 1, 2 and 12). -/
def Obligations.CommandRunsAfterItsLatency : Prop :=
  ∀ (s : State) (w : Word) (n : Nat), s.running = none → s.events = [.write .word 0x00C w] → s.latencies.headD 0 = n →
    (∀ k, 1 ≤ k → k ≤ n →
      Host.Core.run Sys2Proof.core k s =
        .next { s with events := [], latencies := s.latencies.tail, running := some ⟨w, n + 1 - k⟩, done := false }) ∧
    (∀ i, decodeWord w = .ok i →
      Host.Core.run Sys2Proof.core (n + 1) s =
        exec i { s with events := [], latencies := s.latencies.tail, running := some ⟨w, 1⟩, done := false }) ∧
    (w.toNat / 256 ≠ 0 ∨ (∀ i : Instr, w.toNat % 256 ≠ opcode i) →
      Host.Core.run Sys2Proof.core (n + 1) s =
        .next { s with events := [], latencies := s.latencies.tail, running := none, done := true
                       res := ⟨0, 0, 0, 0⟩, err := .illegalCmd })

/-! ## All commands -/

/-- R283, R284: every command completes in every state, and one that ends in error changes nothing but STATUS (BUSY, DONE, ERR)
and RES, all 0. -/
def Obligations.EveryCommandCompletesAndErrorsChangeNothing : Prop :=
  ∀ (i : Instr) (s : State), ∃ t, exec i s = .next t ∧ t.running = none ∧ t.done = true ∧
    (t.err ≠ .ok → t = { s with res := ⟨0, 0, 0, 0⟩, err := t.err, running := none, done := true })

/-- R26, R29, R287: no command writes ARG, CTRL.IRQ_EN or CMD_OVF, and only CREATE writes VERSION_REQ and LEVEL; the host's side
is left alone. -/
def Obligations.NoCommandWritesOperandsOrHostState : Prop :=
  ∀ (i : Instr) (s t : State), exec i s = .next t →
    t.arg = s.arg ∧ t.irqEn = s.irqEn ∧ t.cmdOvf = s.cmdOvf ∧ t.events = s.events ∧ t.rdata = s.rdata ∧
    t.latencies = s.latencies ∧ t.epoch = s.epoch ∧ t.free = s.free ∧
    (i ≠ .create → t.versionReq = s.versionReq ∧ t.level = s.level)

/-- R265: the transitions of (STATE, FINAL) by command; MAKE cannot fail in EMPTY or in MADE, in a state that meets the invariant. -/
def Obligations.SymbolStateTransitions : Prop :=
  (∀ s : State, s.Inv → s.symState ≠ .pending → ∃ t, exec .make s = .next t ∧ t.err = .ok) ∧
  ∀ (i : Instr) (s t : State), exec i s = .next t →
    (t.err ≠ .ok → t.symState = s.symState ∧ t.final = s.final) ∧
    (s.symState ≠ .made → i = .render ∨ i = .penalty → t.err = .state) ∧
    (s.symState ≠ .made → i = .isDark → t.err = .outOfBounds) ∧
    (t.err = .ok →
      (i = .create → t.symState = .empty ∧ t.final = false) ∧
      (i = .addData → t.symState = .pending ∧ t.final = false) ∧
      (i = .make → t.symState = .made ∧ t.final = true) ∧
      (i = .render → t.symState = .made ∧ t.final = false) ∧
      (i ≠ .create → i ≠ .addData → i ≠ .make → i ≠ .render → t.symState = s.symState ∧ t.final = s.final))

/-- R261, R266: MAKE in MADE recomputes the same symbol, and after a RENDER it restores the committed grid and FINAL. -/
def Obligations.MakeIsRepeatableAndUndoesRender : Prop :=
  ∀ s t : State, exec .make s = .next t → t.err = .ok →
    exec .make t = .next t ∧ ∀ u, exec .render t = .next u → exec .make u = .next t

/-! ## GF(256) -/

/-- R104: GF_EXP gives EXP[n mod 255] for ARG0 read as signed, zero-extended, and changes nothing else. -/
def Obligations.GfExpGivesPower : Prop :=
  ∀ s : State, Answers .gfExp s ⟨(expTable.getD (s.arg.w0.toInt % 255).toNat 0).setWidth 32, 0, 0, 0⟩

/-- R105: GF_LOG gives the exponent 0..254 whose power ARG0 is; 0 and values above 255 are DOMAIN. -/
def Obligations.GfLogInvertsExp : Prop :=
  ∀ s : State,
    (1 ≤ s.arg.w0.toNat → s.arg.w0.toNat ≤ 255 →
      ∃ k, k ≤ 254 ∧ expTable.getD k 0 = s.arg.w0.setWidth 8 ∧ Answers .gfLog s ⟨BitVec.ofNat 32 k, 0, 0, 0⟩) ∧
    (s.arg.w0.toNat < 1 ∨ 255 < s.arg.w0.toNat → EndsWith .gfLog s .domain)

/-- R103, R106: GF_MUL of bytes is 0 with a zero operand and EXP[(i + j) mod 255] for EXP[i] and EXP[j]; an operand above 255 is
DOMAIN. -/
def Obligations.GfMulAddsExponents : Prop :=
  ∀ s : State,
    (255 < s.arg.w0.toNat ∨ 255 < s.arg.w1.toNat → EndsWith .gfMul s .domain) ∧
    (s.arg.w0.toNat ≤ 255 → s.arg.w1.toNat ≤ 255 → s.arg.w0 = 0 ∨ s.arg.w1 = 0 → Answers .gfMul s ⟨0, 0, 0, 0⟩) ∧
    (∀ i j, i < 255 → j < 255 → s.arg.w0 = (expTable.getD i 0).setWidth 32 → s.arg.w1 = (expTable.getD j 0).setWidth 32 →
      Answers .gfMul s ⟨(expTable.getD ((i + j) % 255) 0).setWidth 32, 0, 0, 0⟩)

/-- R100: the construction of EXP and LOG. -/
def Obligations.ExpLogTablesAreConstructed : Prop :=
  expTable.length = 256 ∧ (∀ i < 8, expTable.getD i 0 = BitVec.ofNat 8 (1 <<< i)) ∧
  (∀ i, 8 ≤ i → i < 256 →
    expTable.getD i 0 = expTable.getD (i - 4) 0 ^^^ expTable.getD (i - 5) 0 ^^^ expTable.getD (i - 6) 0 ^^^
      expTable.getD (i - 8) 0) ∧
  (∀ i < 255, logOf (expTable.getD i 0).toNat = i)

/-- The spec's own inference in 40_gf_arith.md section 4 (R107): the laws of the field product over XOR, and the inverse. -/
def Obligations.GfProductLaws : Prop :=
  (∀ a b : Byte, gmul a b = gmul b a) ∧ (∀ a b c : Byte, gmul (gmul a b) c = gmul a (gmul b c)) ∧
  (∀ a b c : Byte, gmul a (b ^^^ c) = gmul a b ^^^ gmul a c) ∧ (∀ a : Byte, gmul 1 a = a) ∧
  (∀ a : Byte, gmul 0 a = 0) ∧ (∀ a : Byte, a ≠ 0 → gmul a (gexp (255 - glog a)) = 1) ∧
  (∀ i j : Int, gexp (i + j) = gmul (gexp i) (gexp j))

/-! ## Polynomials -/

/-- R115: POLY_CONSTRUCT strips window `w` and appends ARG1 zeros in place; a select above 1, or a length above 256, is DOMAIN. -/
def Obligations.PolyConstructStripsAndShifts : Prop :=
  ∀ s : State, s.cells.wf = true →
    (1 < s.arg.w0.toNat → EndsWith .polyConstruct s .domain) ∧
    (∀ w, Win.ofSelect? s.arg.w0.toNat = some w →
      (256 < (strip (s.rawList w)).length + s.arg.w1.toNat → EndsWith .polyConstruct s .domain) ∧
      ((strip (s.rawList w)).length + s.arg.w1.toNat ≤ 256 →
        ∃ t, exec .polyConstruct s = .next t ∧
          t.res = ⟨BitVec.ofNat 32 ((strip (s.rawList w)).length + s.arg.w1.toNat), 0, 0, 0⟩ ∧
          t.err = .ok ∧ t.running = none ∧ t.done = true ∧
          t.rawList w = strip (s.rawList w) ++ List.replicate s.arg.w1.toNat 0 ∧
          (∀ w', w' ≠ w → t.winLen w' = s.winLen w') ∧
          (∀ a, (∀ i < t.winLen w, a ≠ w.offset i) → t.cell a = s.cell a) ∧
          { t with cells := s.cells, aLen := s.aLen, bLen := s.bLen, res := s.res, err := s.err,
                   running := s.running, done := s.done } = s))

/-- R120: POLY_MOVE copies R and R_LEN to window A or B; the cells above stay; a select above 1 is DOMAIN. -/
def Obligations.PolyMoveCopiesResult : Prop :=
  ∀ s : State, s.cells.wf = true →
    (1 < s.arg.w0.toNat → EndsWith .polyMove s .domain) ∧
    (∀ w, Win.ofSelect? s.arg.w0.toNat = some w →
      ∃ t, exec .polyMove s = .next t ∧ t.res = ⟨BitVec.ofNat 32 s.r.length, 0, 0, 0⟩ ∧
        t.err = .ok ∧ t.running = none ∧ t.done = true ∧
        t.winLen w = s.r.length ∧ t.rawList w = s.r ∧ (∀ w', w' ≠ w → t.winLen w' = s.winLen w') ∧
        (∀ a, (∀ i < s.r.length, a ≠ w.offset i) → t.cell a = s.cell a) ∧
        { t with cells := s.cells, aLen := s.aLen, bLen := s.bLen, res := s.res, err := s.err,
                 running := s.running, done := s.done } = s)

/-- R118: POLY_MUL puts the product of the stripped windows in R, its length in RES0 and R_LEN; above 256 coefficients it is
DOMAIN. -/
def Obligations.PolyMulWritesProduct : Prop :=
  ∀ s : State,
    (256 < (pmul (s.rawList .a) (s.rawList .b)).length → EndsWith .polyMul s .domain) ∧
    ((pmul (s.rawList .a) (s.rawList .b)).length ≤ 256 →
      exec .polyMul s = .next
        { s with
          r := pmul (s.rawList .a) (s.rawList .b)
          res := ⟨BitVec.ofNat 32 (pmul (s.rawList .a) (s.rawList .b)).length, 0, 0, 0⟩
          err := .ok, running := none, done := true })

/-- R112: the product with an empty polynomial is empty; otherwise it has `len(a) + len(b) - 1` coefficients, each the XOR-sum over
`i + j = k`, of the stripped operands. -/
def Obligations.ProductCoefficientsAreXorSums : Prop :=
  ∀ a b : Poly,
    (strip a = [] ∨ strip b = [] → pmul a b = []) ∧
    (strip a ≠ [] → strip b ≠ [] →
      (pmul a b).length = (strip a).length + (strip b).length - 1 ∧
      ∀ k < (pmul a b).length,
        (pmul a b).getD k 0 =
          (List.range (strip a).length).foldl
            (fun acc i =>
              acc ^^^ (if i ≤ k ∧ k - i < (strip b).length then gmul ((strip a).getD i 0) ((strip b).getD (k - i) 0) else 0)) 0)

/-- R119: POLY_MOD puts the remainder of A by B, shorter than B, in R; a zero divisor is DOMAIN. -/
def Obligations.PolyModWritesRemainder : Prop :=
  ∀ s : State,
    (strip (s.rawList .b) = [] → EndsWith .polyMod s .domain) ∧
    (strip (s.rawList .b) ≠ [] →
      ∃ p, pmod? (s.rawList .a) (s.rawList .b) = some p ∧ p.length < (strip (s.rawList .b)).length ∧
        exec .polyMod s = .next
          { s with
            r := p, res := ⟨BitVec.ofNat 32 p.length, 0, 0, 0⟩, err := .ok, running := none, done := true })

/-- The spec's own inference in 41_polynomial.md section 2 (R114): the remainder is stripped, shorter than the divisor, and differs from the dividend by a multiple of the divisor. -/
def Obligations.RemainderIsCongruentAndShort : Prop :=
  ∀ a e r : Poly, pmod? a e = some r →
    strip r = r ∧ r.length < (strip e).length ∧
    ∃ q : Poly, ∀ k, polyCoeff (strip a) k = polyCoeff (pmul q e) k ^^^ polyCoeff r k

/-- R121: RS_GEN puts `gen(L)`, of L + 1 coefficients with leading coefficient 1, in R; L above 255 is DOMAIN. -/
def Obligations.RsGenWritesGenerator : Prop :=
  ∀ s : State,
    (255 < s.arg.w0.toNat → EndsWith .rsGen s .domain) ∧
    (s.arg.w0.toNat ≤ 255 →
      (gen s.arg.w0.toNat).length = s.arg.w0.toNat + 1 ∧ (gen s.arg.w0.toNat).headD 0 = 1 ∧
      exec .rsGen s = .next
        { s with
          r := gen s.arg.w0.toNat, res := ⟨s.arg.w0 + 1, 0, 0, 0⟩, err := .ok, running := none, done := true })

/-- From the product form in 41_polynomial.md section 3 (R116): `gen(L)` vanishes at each of the first L powers of α, the roots of its factors. -/
def Obligations.GeneratorHasConsecutiveRoots : Prop :=
  ∀ n i : Nat, i < n → polyEval (gen n) (gexp i) = 0

/-- R122: RS_ENCODE puts exactly L bytes in R, the remainder right-aligned; L above 255 is DOMAIN. -/
def Obligations.RsEncodeWritesExactlyLBytes : Prop :=
  ∀ s : State,
    (255 < s.arg.w0.toNat → EndsWith .rsEncode s .domain) ∧
    (s.arg.w0.toNat ≤ 255 →
      (rsEc (s.rawList .a) s.arg.w0.toNat).length = s.arg.w0.toNat ∧
      exec .rsEncode s = .next
        { s with
          r := rsEc (s.rawList .a) s.arg.w0.toNat, res := ⟨s.arg.w0, 0, 0, 0⟩
          err := .ok, running := none, done := true })

/-- From 41_polynomial.md section 3 (R117), the remainder read as check symbols: data followed by its EC codewords is a Reed-Solomon codeword: it vanishes at the L roots of the generator. -/
def Obligations.DataWithEcCodewordsIsCodeword : Prop :=
  ∀ (data : Poly) (n i : Nat), i < n → polyEval (data ++ rsEc data n) (gexp i) = 0

/-! ## EC blocks -/

/-- R135: EC_PLAN reports the plan's groups and aggregates in their fields; a version outside 1..40 or a level code above 3 is
DOMAIN. -/
def Obligations.EcPlanReportsPlan : Prop :=
  ∀ s : State,
    (s.arg.w0.toNat < 1 ∨ 40 < s.arg.w0.toNat ∨ 3 < s.arg.w1.toNat → EndsWith .ecPlan s .domain) ∧
    (∀ lvl : Level, 1 ≤ s.arg.w0.toNat → s.arg.w0.toNat ≤ 40 → s.arg.w1.toNat = lvl.code →
      ∃ e p q, ecRow? s.arg.w0.toNat lvl = some e ∧ plan? s.arg.w0.toNat lvl = some p ∧ Answers .ecPlan s q ∧
        q.w0.toNat = e.g1.count + 256 * e.g1.total + 65536 * e.g1.data ∧
        (e.g2 = none → q.w1 = 0) ∧
        (∀ g, e.g2 = some g → q.w1.toNat = g.count + 256 * g.total + 65536 * g.data) ∧
        q.w2.toNat = dataTotal p + 65536 * ecTotal p ∧
        q.w3.toNat = p.length + 256 * maxEc p + 65536 * maxData p)

/-- R136: RAW_MODULES gives the module count, its codewords and its remainder bits; a version outside 1..40 is DOMAIN. -/
def Obligations.RawModulesReportsCapacity : Prop :=
  ∀ s : State,
    (s.arg.w0.toNat < 1 ∨ 40 < s.arg.w0.toNat → EndsWith .rawModules s .domain) ∧
    (1 ≤ s.arg.w0.toNat → s.arg.w0.toNat ≤ 40 →
      Answers .rawModules s
        ⟨BitVec.ofNat 32 (rawModules s.arg.w0.toNat), BitVec.ofNat 32 (rawModules s.arg.w0.toNat / 8),
         BitVec.ofNat 32 (rawModules s.arg.w0.toNat % 8), 0⟩)

/-- The spec's own inference in 42_ec_blocks.md section 5 (R137): the capacity table round trip, the group shape, one EC count a
block, a generator with no zero coefficient for it, and capacity strictly monotone in level and version. -/
def Obligations.CapacityTableProperties : Prop :=
  ∀ (v : Nat) (lvl : Level), 1 ≤ v → v ≤ 40 →
    ∃ e p, ecRow? v lvl = some e ∧ plan? v lvl = some p ∧
      dataTotal p + ecTotal p = cwTotal p ∧ cwTotal p = rawModules v / 8 ∧
      (∀ g, e.g2 = some g → 0 < g.count ∧ g.total = e.g1.total + 1 ∧ g.data = e.g1.data + 1) ∧
      (∀ b ∈ p, b.ec = maxEc p ∧ b.ec ∈ [7, 10, 13, 15, 16, 17, 18, 20, 22, 24, 26, 28, 30] ∧ ∀ c ∈ gen b.ec, c ≠ 0) ∧
      (∀ lvl' p', lvl.code < lvl'.code → plan? v lvl' = some p' → dataTotal p' < dataTotal p) ∧
      (∀ p', plan? (v + 1) lvl = some p' → dataTotal p < dataTotal p')

/-! ## Segments and the bit buffer -/

/-- R153, R154: CCW gives the count width of a mode and version; another mode code or version is DOMAIN. -/
def Obligations.CcwGivesCountWidth : Prop :=
  ∀ s : State,
    (s.arg.w0.toNat ∉ [1, 2, 4, 8] ∨ s.arg.w1.toNat < 1 ∨ 40 < s.arg.w1.toNat → EndsWith .ccw s .domain) ∧
    (∀ code w9 w26 w40,
      (code, w9, w26, w40) ∈ [(1, 10, 12, 14), (2, 9, 11, 13), (4, 8, 16, 16), (8, 8, 10, 12)] → s.arg.w0.toNat = code →
      (1 ≤ s.arg.w1.toNat → s.arg.w1.toNat ≤ 9 → Answers .ccw s ⟨BitVec.ofNat 32 w9, 0, 0, 0⟩) ∧
      (10 ≤ s.arg.w1.toNat → s.arg.w1.toNat ≤ 26 → Answers .ccw s ⟨BitVec.ofNat 32 w26, 0, 0, 0⟩) ∧
      (27 ≤ s.arg.w1.toNat → s.arg.w1.toNat ≤ 40 → Answers .ccw s ⟨BitVec.ofNat 32 w40, 0, 0, 0⟩))

/-- R142, R171, R264: STAGE_CLEAR, BB_CLEAR and NOP complete in every state; the first empties STAGE and clears STAGE_OVF, the second
empties BB so that every BB entry reads 0, the third has no effect beyond completion. -/
def Obligations.ClearsAndNopComplete : Prop :=
  ∀ s : State,
    exec .stageClear s =
      .next { s with stage := [], stageOvf := false, res := ⟨0, 0, 0, 0⟩, err := .ok, running := none, done := true } ∧
    exec .bbClear s = .next { s with bb := [], res := ⟨0, 0, 0, 0⟩, err := .ok, running := none, done := true } ∧
    (∀ i, State.regValue { s with bb := [] } (.bbByte i) = 0) ∧
    Answers .nop s ⟨0, 0, 0, 0⟩

/-- R150: ADD_DATA checks the mode code, then the stores, then the bytes; otherwise it appends the staged bytes as a segment, empties
STAGE, moves to PENDING and clears the registers of the made symbol. -/
def Obligations.AddDataAppendsSegmentOrReportsFirstError : Prop :=
  ∀ s : State,
    (s.arg.w0.toNat ∉ [1, 2, 4, 8] → EndsWith .addData s .invalidMode) ∧
    (∀ m : Mode, s.arg.w0.toNat = m.code →
      (s.stageOvf = true ∨ s.segCount = 2048 ∨ 8192 < s.segBytes + s.stageLen → EndsWith .addData s .storeFull) ∧
      (s.stageOvf = false → s.segCount ≠ 2048 → s.segBytes + s.stageLen ≤ 8192 →
        (validIn m s.stage = false → EndsWith .addData s .illegalChar) ∧
        (validIn m s.stage = true →
          exec .addData s = .next
            { s with
              segs := s.segs ++ [⟨m, s.stage⟩], stage := [], stageOvf := false, symState := .pending, final := false
              versionEff := 0, moduleCount := 0, mask := 0, cw := [], dataBits := 0
              trialP123 := List.replicate 8 0, trialDark := List.replicate 8 0
              res := ⟨BitVec.ofNat 32 (charCount m s.stage), BitVec.ofNat 32 (segBits m (charCount m s.stage)),
                BitVec.ofNat 32 (s.segCount + 1), 0⟩
              err := .ok, running := none, done := true })))

/-- R155, R181: the packed stream is the bits of the segments in order, and as long as the closed form the spec infers in 45_assembler.md
section 1 (R181). -/
def Obligations.PackedLengthIsClosedForm : Prop :=
  ∀ (segs : List Segment) (v : Nat),
    pack segs v = segs.flatMap (segmentBits v) ∧ (pack segs v).length = packedBits segs v ∧
    packedBits segs v =
      (segs.map (fun g =>
        let n := if g.mode = .kanji then g.bytes.length / 2 else g.bytes.length
        4 + ccw g.mode v +
          (match g.mode with
            | .numeric => 10 * (n / 3) + [0, 4, 7].getD (n % 3) 0
            | .alphanumeric => 11 * (n / 2) + 6 * (n % 2)
            | .byte => 8 * n
            | .kanji => 13 * n))).sum

/-- R140, R144 to R149: the mode codes, which bytes are valid in a mode, and the fields the encoder emits for valid bytes, each with its
value and its width, which it fits (for Kanji the spec's own inference). -/
def Obligations.EncodedFieldsFitTheirWidth : Prop :=
  [Mode.numeric, .alphanumeric, .byte, .kanji].map Mode.code = [1, 2, 4, 8] ∧
  (∀ (m : Mode) (bs : List Byte), validIn m bs = true → ∀ f ∈ encFields m bs, f.1 < 2 ^ f.2) ∧
  ∀ bs : List Byte,
    (validIn .numeric bs = true ↔ ∀ b ∈ bs, 0x30 ≤ b.toNat ∧ b.toNat ≤ 0x39) ∧
    (validIn .alphanumeric bs = true ↔ ∀ b ∈ bs, b ∈ alphabet45) ∧
    validIn .byte bs = true ∧
    (validIn .kanji bs = true ↔ bs.length % 2 = 0 ∧ ∀ k < bs.length / 2,
      (0x8140 ≤ pairAt bs k ∧ pairAt bs k ≤ 0x9FFC) ∨ (0xE040 ≤ pairAt bs k ∧ pairAt bs k ≤ 0xEBBF)) ∧
    (validIn .numeric bs = true →
      encFields .numeric bs = (List.range ((bs.length + 2) / 3)).map (fun k =>
        let d := fun j => (bs.getD (3 * k + j) 0).toNat - 0x30
        if 3 * k + 3 ≤ bs.length then (100 * d 0 + 10 * d 1 + d 2, 10)
        else if bs.length - 3 * k = 2 then (10 * d 0 + d 1, 7)
        else (d 0, 4))) ∧
    (validIn .alphanumeric bs = true →
      encFields .alphanumeric bs = (List.range ((bs.length + 1) / 2)).map (fun k =>
        let c := fun j => alphabet45.idxOf (bs.getD (2 * k + j) 0)
        if 2 * k + 2 ≤ bs.length then (c 0 * 45 + c 1, 11) else (c 0, 6))) ∧
    encFields .byte bs = bs.map (fun b => (b.toNat, 8)) ∧
    (validIn .kanji bs = true →
      encFields .kanji bs = (List.range (bs.length / 2)).map (fun k =>
        let c := if pairAt bs k ≤ 0x9FFC then pairAt bs k - 0x8140 else pairAt bs k - 0xC140
        ((c / 256) * 0xC0 + c % 256, 13)))

/-- The spec's own inference in 45_assembler.md section 3 (R191): a character count that does not fit its count field never fits the capacity. -/
def Obligations.CountsFitWhereSegmentsFit : Prop :=
  ∀ (segs : List Segment) (v : Nat) (lvl : Level), fits segs v lvl = true →
    ∀ g ∈ segs, charCount g.mode g.bytes < 2 ^ ccw g.mode v

/-- R173, R174: BB_PUT appends the low n bits of ARG0, most significant first, all or nothing; more than 32 bits is DOMAIN, past
8192 bits STORE_FULL. -/
def Obligations.BbPutAppendsLowBits : Prop :=
  ∀ s : State,
    (32 < s.arg.w1.toNat → EndsWith .bbPut s .domain) ∧
    (s.arg.w1.toNat ≤ 32 → 8192 < s.bbLen + s.arg.w1.toNat → EndsWith .bbPut s .storeFull) ∧
    (s.arg.w1.toNat ≤ 32 → s.bbLen + s.arg.w1.toNat ≤ 8192 →
      ∃ bits : List Bool, bits.length = s.arg.w1.toNat ∧
        (∀ i < s.arg.w1.toNat, bits.getD i false = s.arg.w0.getLsbD (s.arg.w1.toNat - 1 - i)) ∧
        exec .bbPut s = .next
          { s with
            bb := s.bb ++ bits, res := ⟨BitVec.ofNat 32 (s.bbLen + s.arg.w1.toNat), 0, 0, 0⟩
            err := .ok, running := none, done := true })

/-- R172, R175: BB_PUTBIT appends one bit, 1 for any nonzero ARG0; the byte it falls in gains the bit `0x80 >> (length mod 8)` and
every other byte of the window stays; a full buffer is STORE_FULL. -/
def Obligations.BbPutbitSetsOneBitOfItsByte : Prop :=
  ∀ s : State,
    (8192 < s.bbLen + 1 → EndsWith .bbPutbit s .storeFull) ∧
    (s.bbLen + 1 ≤ 8192 →
      ∃ bb : List Bool, bb.length = s.bbLen + 1 ∧
        bufByte bb (s.bbLen / 8) =
          (if s.arg.w0 ≠ 0 then bufByte s.bb (s.bbLen / 8) ||| ((0x80 : Byte) >>> (s.bbLen % 8))
           else bufByte s.bb (s.bbLen / 8)) ∧
        (∀ i, i ≠ s.bbLen / 8 → bufByte bb i = bufByte s.bb i) ∧
        exec .bbPutbit s = .next
          { s with
            bb := bb, res := ⟨BitVec.ofNat 32 (s.bbLen + 1), 0, 0, 0⟩, err := .ok, running := none, done := true })

/-- R176, R177: BB_GETBIT gives bit `7 - (k mod 8)` of window byte BB[⌊k/8⌋]; an index at or past BB_LEN is OUT_OF_BOUNDS. -/
def Obligations.BbGetbitReadsWindowBit : Prop :=
  ∀ s : State,
    (s.bbLen ≤ s.arg.w0.toNat → EndsWith .bbGetbit s .outOfBounds) ∧
    (s.arg.w0.toNat < s.bbLen →
      Answers .bbGetbit s
        ⟨((s.regValue (.bbByte (s.arg.w0.toNat / 8))) >>> (7 - s.arg.w0.toNat % 8)) &&& 1, 0, 0, 0⟩)

/-! ## The assembler -/

/-- R189: version auto-selection gives the first version 1..40 whose capacity holds the segments, and none when none does. -/
def Obligations.SelectVersionIsFirstThatFits : Prop :=
  ∀ (segs : List Segment) (lvl : Level),
    (∀ v, selectVersion? segs lvl = some v ↔
      1 ≤ v ∧ v ≤ 40 ∧ fits segs v lvl = true ∧ ∀ u, 1 ≤ u → u < v → fits segs u lvl = false) ∧
    (selectVersion? segs lvl = none ↔ ∀ v, 1 ≤ v → v ≤ 40 → fits segs v lvl = false)

/-- R183 to R185: the data stream of a buffer that fits has exactly `cap` bytes: the buffer's bits, zeros to the byte boundary after
the terminator's place, then 0xEC and 0x11 in turn. -/
def Obligations.DataStreamIsBufferZerosAndPads : Prop :=
  ∀ (buf : List Bool) (cap : Nat), buf.length ≤ 8 * cap →
    (dataStream buf cap).length = cap ∧
    ∀ k < 8 * cap,
      codewordBit (dataStream buf cap) k =
        if k < buf.length then buf.getD k false
        else if k / 8 < min cap ((buf.length + 11) / 8) then false
        else (if (k / 8 - min cap ((buf.length + 11) / 8)) % 2 = 0 then 0xEC else 0x11).testBit (7 - k % 8)

/-- R188: in the interleaved output, byte `i` of block `k` stands after every column before `i` and after the blocks before `k` that
reach column `i`; nothing is added. -/
def Obligations.InterleavePlacesEachByte : Prop :=
  ∀ (n : Nat) (blocks : List (List Byte)), (∀ b ∈ blocks, b.length ≤ n) →
    (interleave n blocks).length = (blocks.map List.length).sum ∧
    ∀ (k i : Nat) (b : List Byte), blocks[k]? = some b → i < b.length →
      (interleave n blocks)[(blocks.map (fun c => min c.length i)).sum + (blocks.take k).countP (fun c => i < c.length)]? =
        b[i]?

/-- R186 to R188, R190: a successful assembly splits the data stream into the plan's blocks, appends each block's EC codewords and
interleaves both; it reports the packed length, which fits. That its codewords number exactly `⌊raw_modules(v)/8⌋` is the spec's own
inference in 45_assembler.md section 3 (R191). -/
def Obligations.AssemblyFillsSymbol : Prop :=
  ∀ (segs : List Segment) (v : Nat) (lvl : Level) (cw : List Byte) (db : Nat), assemble segs v lvl = .ok (cw, db) →
    ∃ p, plan? v lvl = some p ∧ cw.length = cwTotal p ∧ cw.length = rawModules v / 8 ∧
      db = packedBits segs v ∧ db ≤ 8 * dataTotal p ∧
      ∃ ds : List (List Byte), ds.map List.length = p.map Block.data ∧
        ds.flatten = dataStream (pack segs v) (dataTotal p) ∧
        cw = interleave (maxData p) ds ++ interleave (maxEc p) (List.zipWith (fun b d => rsEc d (b.total - b.data)) p ds)

/-! ## Patterns -/

/-- R206, R209, R212, R213: FORMAT_BITS and VERSION_BITS give their BCH words: the data bits on top, the whole (unmasked) a multiple
over GF(2) of G15 or G18; operands out of range are DOMAIN. -/
def Obligations.FormatAndVersionWordsAreBch : Prop :=
  ∀ s : State,
    (3 < s.arg.w0.toNat ∨ 7 < s.arg.w1.toNat → EndsWith .formatBits s .domain) ∧
    (s.arg.w0.toNat ≤ 3 → s.arg.w1.toNat ≤ 7 →
      ∃ f q, f < 2 ^ 15 ∧ (f ^^^ 0x5412) >>> 10 = [0b01, 0b00, 0b11, 0b10].getD s.arg.w0.toNat 0 * 8 + s.arg.w1.toNat ∧
        f ^^^ 0x5412 = carrylessMul q 0x537 ∧ Answers .formatBits s ⟨BitVec.ofNat 32 f, 0, 0, 0⟩) ∧
    (s.arg.w0.toNat < 7 ∨ 40 < s.arg.w0.toNat → EndsWith .versionBits s .domain) ∧
    (7 ≤ s.arg.w0.toNat → s.arg.w0.toNat ≤ 40 →
      ∃ f q, f < 2 ^ 18 ∧ f >>> 12 = s.arg.w0.toNat ∧ f = carrylessMul q 0x1F25 ∧
        Answers .versionBits s ⟨BitVec.ofNat 32 f, 0, 0, 0⟩)

/-- R214: ALIGN_POS gives the number of alignment coordinates and their list a byte each; a version outside 1..40 is DOMAIN. -/
def Obligations.AlignPosListsCoordinates : Prop :=
  ∀ s : State,
    (s.arg.w0.toNat < 1 ∨ 40 < s.arg.w0.toNat → EndsWith .alignPos s .domain) ∧
    (1 ≤ s.arg.w0.toNat → s.arg.w0.toNat ≤ 40 →
      ∃ q, Answers .alignPos s q ∧ q.w0 = BitVec.ofNat 32 (alignCoords s.arg.w0.toNat).length ∧
        (∀ j < 4, (q.w1.toNat >>> (8 * j)) % 256 = (alignCoords s.arg.w0.toNat).getD j 0) ∧
        (∀ j < 4, (q.w2.toNat >>> (8 * j)) % 256 = (alignCoords s.arg.w0.toNat).getD (4 + j) 0) ∧ q.w3 = 0)

/-- R202, R204, R205, R207, R208, R210: the cells of the finder patterns with their separators, of the alignment patterns and of the
timing lines; the cells of the format word, the dark module and the version word, both copies: the word's bits in a committed render,
all light in a trial. -/
def Obligations.FormatAndVersionCellsCarryTheirWords : Prop :=
  ∀ (v : Nat) (lvl : Level) (m : Fin 8) (test : Bool), 1 ≤ v → v ≤ 40 →
    (∀ i < 15,
      (structural v lvl m test).cell (if i < 6 then i else if i < 8 then i + 1 else 4 * v + 17 - 15 + i) 8 =
        (if test = false ∧ (formatWord lvl m.val).testBit i = true then .dark else .light) ∧
      (structural v lvl m test).cell 8 (if i < 8 then 4 * v + 17 - 1 - i else if i = 8 then 7 else 14 - i) =
        (if test = false ∧ (formatWord lvl m.val).testBit i = true then .dark else .light)) ∧
    (structural v lvl m test).cell (4 * v + 17 - 8) 8 = (if test = false then .dark else .light) ∧
    (7 ≤ v → ∀ i < 18,
      (structural v lvl m test).cell (i / 3) (4 * v + 17 - 11 + i % 3) =
        (if test = false ∧ (versionWord v).testBit i = true then .dark else .light) ∧
      (structural v lvl m test).cell (4 * v + 17 - 11 + i % 3) (i / 3) =
        (if test = false ∧ (versionWord v).testBit i = true then .dark else .light)) ∧
    (∀ i j, 1 ≤ i → i < 9 → 1 ≤ j → j < 9 →
      (structural v lvl m test).cell (i - 1) (j - 1) = finderColour i j ∧
      (structural v lvl m test).cell (4 * v + 17 - 8 + (i - 1)) (j - 1) = finderColour (i - 1) j ∧
      (structural v lvl m test).cell (i - 1) (4 * v + 17 - 8 + (j - 1)) = finderColour i (j - 1)) ∧
    (∀ i, 8 ≤ i → i ≤ 4 * v + 17 - 9 →
      (structural v lvl m test).cell i 6 = (if i % 2 = 0 then .dark else .light) ∧
      (structural v lvl m test).cell 6 i = (if i % 2 = 0 then .dark else .light)) ∧
    (∀ row ∈ alignCoords v, ∀ col ∈ alignCoords v,
      ¬ (row = 6 ∧ (col = 6 ∨ col = 4 * v + 17 - 7)) → ¬ (row = 4 * v + 17 - 7 ∧ col = 6) →
      ∀ i < 5, ∀ j < 5,
        (structural v lvl m test).cell (row + i - 2) (col + j - 2) =
          (if i = 0 ∨ i = 4 ∨ j = 0 ∨ j = 4 ∨ (i = 2 ∧ j = 2) then .dark else .light))

/-- The spec's own inference in 46_patterns.md section 6 (R215): the structural patterns leave exactly `raw_modules(v)` cells unset, the
same for every level, mask and trial flag; and in its section 2 (R203): the closed form of the alignment coordinates. -/
def Obligations.UnsetCellsMatchCapacity : Prop :=
  ∀ (v : Nat) (lvl : Level) (m : Fin 8) (test : Bool), 1 ≤ v → v ≤ 40 →
    (cellsOf (sideOf v)).countP (fun p => (structural v lvl m test).cell p.1 p.2 == .unset) = rawModules v ∧
    alignCoords v =
      (if v = 1 then []
       else
        let na := v / 7 + 2
        let step := if v = 32 then 26 else 2 * ((4 * v + 2 * na + 1) / (2 * na - 2))
        6 :: (List.range (na - 1)).map (fun j => 4 * v + 17 - 7 - (na - 2 - j) * step))

/-- R231 to R234: a render sets every cell of its square grid and leaves every structural cell as the patterns set it; the `k`-th cell
left unset, in the order of the traversal, is dark exactly when codeword bit `k` (0 past the codewords) differs from the mask there. The
traversal takes the column pairs from the right, column 6 skipped, upward and downward in turn, the right cell of a row first. -/
def Obligations.RenderSetsEveryCellAndKeepsPatterns : Prop :=
  ∀ (v : Nat) (lvl : Level) (cw : List Byte) (m : Fin 8) (test : Bool), 1 ≤ v → v ≤ 40 →
    (render v lvl cw m test).length = sideOf v ∧ (∀ row ∈ render v lvl cw m test, row.length = sideOf v) ∧
    (∀ r c, r < sideOf v → c < sideOf v →
      (render v lvl cw m test).cell r c ≠ .unset ∧
      ((structural v lvl m test).cell r c ≠ .unset →
        (render v lvl cw m test).cell r c = (structural v lvl m test).cell r c)) ∧
    (∀ k r c,
      ((zigzag (sideOf v)).filter (fun p => (structural v lvl m test).cell p.1 p.2 == .unset))[k]? = some (r, c) →
      (render v lvl cw m test).cell r c =
        (if (if k / 8 < cw.length then (cw.getD (k / 8) 0).getLsbD (7 - k % 8) else false) ≠ maskFn m r c then .dark
         else .light)) ∧
    sideOf v = 4 * v + 17 ∧ (zigzag (sideOf v)).length = 2 * sideOf v * (2 * v + 8) ∧
    ∀ q t, q < 2 * v + 8 → t < 2 * sideOf v →
      (zigzag (sideOf v))[2 * sideOf v * q + t]? =
        some (if q % 2 = 0 then sideOf v - 1 - t / 2 else t / 2,
          (if 8 ≤ sideOf v - 1 - 2 * q then sideOf v - 1 - 2 * q else sideOf v - 2 - 2 * q) - t % 2)

/-! ## Masks, scoring and the symbol -/

/-- R246: RENDER re-renders the made symbol and clears FINAL; outside MADE it is STATE, then a mask above 7 or a test flag above 1 is
DOMAIN. -/
def Obligations.RenderRedrawsMadeSymbol : Prop :=
  ∀ s : State,
    (s.symState ≠ .made → EndsWith .render s .state) ∧
    (s.symState = .made → 7 < s.arg.w0.toNat ∨ 1 < s.arg.w1.toNat → EndsWith .render s .domain) ∧
    (∀ m : Fin 8, s.symState = .made → s.arg.w0.toNat = m.val → s.arg.w1.toNat ≤ 1 →
      exec .render s = .next
        { s with
          grid := render s.versionEff s.level s.cw m (decide (s.arg.w1.toNat = 1)), final := false
          res := ⟨s.arg.w0, 0, 0, 0⟩, err := .ok, running := none, done := true })

/-- R240 to R244, R247: PENALTY reports levels 1 to 3 and the dark count of the grid as it stands; outside MADE it is STATE. What each
level counts, over the cells of the grid, and the comparison value Q made of them; the bounds the spec infers in 47_mapper_mask.md
section 3 (R244). -/
def Obligations.PenaltyReportsScore : Prop :=
  (∀ s : State,
    (s.symState ≠ .made → EndsWith .penalty s .state) ∧
    (s.symState = .made →
      Answers .penalty s
        ⟨BitVec.ofNat 32 (penalty1 s.grid s.moduleCount), BitVec.ofNat 32 (penalty2 s.grid s.moduleCount),
         BitVec.ofNat 32 (penalty3 s.grid s.moduleCount), BitVec.ofNat 32 (darkCount s.grid s.moduleCount)⟩)) ∧
  ∀ (g : Grid) (n : Nat),
    penalty1 g n =
      (gridCells n).sum (fun p => if 5 < (alikeAround g n p).card then 3 + ((alikeAround g n p).card - 5) else 0) ∧
    penalty2 g n =
      3 * ((gridCells (n - 1)).filter (fun p =>
        g.cell p.1 p.2 = g.cell (p.1 + 1) p.2 ∧ g.cell p.1 p.2 = g.cell p.1 (p.2 + 1) ∧
          g.cell p.1 p.2 = g.cell (p.1 + 1) (p.2 + 1))).card ∧
    penalty3 g n =
      40 * (((gridCells n).filter (fun p => p.2 + 7 ≤ n ∧ ∀ t < 7,
          g.cell p.1 (p.2 + t) = [Module.dark, .light, .dark, .dark, .dark, .light, .dark].getD t .unset)).card +
        ((gridCells n).filter (fun p => p.1 + 7 ≤ n ∧ ∀ t < 7,
          g.cell (p.1 + t) p.2 = [Module.dark, .light, .dark, .dark, .dark, .light, .dark].getD t .unset)).card) ∧
    darkCount g n = ((gridCells n).filter (fun p => g.cell p.1 p.2 = .dark)).card ∧
    (score g n).p123 = penalty1 g n + penalty2 g n + penalty3 g n ∧
    ((score g n).q n : Int) =
      n * n * (penalty1 g n + penalty2 g n + penalty3 g n) + |200 * (darkCount g n : Int) - 100 * (n * n)| ∧
    penalty1 g n ≤ 6 * (n * n) ∧ penalty2 g n ≤ 3 * ((n - 1) * (n - 1)) ∧ penalty3 g n ≤ 80 * n * (n - 6) ∧
      darkCount g n ≤ n * n

/-- R230, R248: MASK_EVAL gives the mask's formula at (ARG1, ARG2); a mask above 7 or a coordinate above 255 is DOMAIN. -/
def Obligations.MaskEvalGivesFormula : Prop :=
  ∀ s : State,
    (7 < s.arg.w0.toNat ∨ 255 < s.arg.w1.toNat ∨ 255 < s.arg.w2.toNat → EndsWith .maskEval s .domain) ∧
    (s.arg.w0.toNat ≤ 7 → ∀ i j, s.arg.w1.toNat = i → s.arg.w2.toNat = j → i ≤ 255 → j ≤ 255 →
      ∃ b : Bool, Answers .maskEval s ⟨if b then 1 else 0, 0, 0, 0⟩ ∧
        (s.arg.w0.toNat = 0 → (b = true ↔ (i + j) % 2 = 0)) ∧
        (s.arg.w0.toNat = 1 → (b = true ↔ i % 2 = 0)) ∧
        (s.arg.w0.toNat = 2 → (b = true ↔ j % 3 = 0)) ∧
        (s.arg.w0.toNat = 3 → (b = true ↔ (i + j) % 3 = 0)) ∧
        (s.arg.w0.toNat = 4 → (b = true ↔ (i / 2 + j / 3) % 2 = 0)) ∧
        (s.arg.w0.toNat = 5 → (b = true ↔ i * j % 2 + i * j % 3 = 0)) ∧
        (s.arg.w0.toNat = 6 → (b = true ↔ (i * j % 2 + i * j % 3) % 2 = 0)) ∧
        (s.arg.w0.toNat = 7 → (b = true ↔ (i * j % 3 + (i + j) % 2) % 2 = 0)))

/-- R245: the mask chosen has the least Q, and every lower index a greater one. -/
def Obligations.BestMaskIsLowestIndexOfLeastQ : Prop :=
  ∀ (q : Fin 8 → Nat) (b : Fin 8), bestMask (maskIndices.map (fun m => (m, q m))) = b →
    (∀ m, q b ≤ q m) ∧ ∀ m, m < b → q b < q m

/-- R260: CREATE starts a new symbol and discards the old one and the staged bytes; a version above 40 is DOMAIN, then a level code
above 3 INVALID_LEVEL. -/
def Obligations.CreateStartsNewSymbol : Prop :=
  ∀ s : State,
    (40 < s.arg.w0.toNat → EndsWith .create s .domain) ∧
    (s.arg.w0.toNat ≤ 40 → 3 < s.arg.w1.toNat → EndsWith .create s .invalidLevel) ∧
    (∀ lvl : Level, s.arg.w0.toNat ≤ 40 → s.arg.w1.toNat = lvl.code →
      exec .create s = .next
        { s with
          versionReq := s.arg.w0.toNat, level := lvl, segs := [], stage := [], stageOvf := false
          symState := .empty, final := false
          versionEff := 0, moduleCount := 0, mask := 0, cw := [], dataBits := 0
          trialP123 := List.replicate 8 0, trialDark := List.replicate 8 0
          res := ⟨0, 0, 0, 0⟩, err := .ok, running := none, done := true })

/-- R261: MAKE resolves the version (the one asked for, or the first that fits), assembles, tries the eight masks and commits the best
render, with every register R261 names; when the segments do not fit it is CAPACITY. -/
def Obligations.MakeBuildsSymbolOrReportsCapacity : Prop :=
  ∀ s : State, s.versionReq ≤ 40 →
    ((s.versionReq ≠ 0 ∧ fits s.segs s.versionReq s.level = false) ∨
      (s.versionReq = 0 ∧ selectVersion? s.segs s.level = none) → EndsWith .make s .capacity) ∧
    (∀ v, (s.versionReq ≠ 0 ∧ v = s.versionReq) ∨ (s.versionReq = 0 ∧ selectVersion? s.segs s.level = some v) →
      fits s.segs v s.level = true →
      ∃ cw best, assemble s.segs v s.level = .ok (cw, packedBits s.segs v) ∧
        best = bestMask (maskIndices.map (fun m => (m, (score (render v s.level cw m true) (4 * v + 17)).q (4 * v + 17)))) ∧
        exec .make s = .next
          { s with
            grid := render v s.level cw best false, cw := cw
            versionEff := v, moduleCount := 4 * v + 17, mask := best, dataBits := packedBits s.segs v
            trialP123 := maskIndices.map (fun m => (score (render v s.level cw m true) (4 * v + 17)).p123)
            trialDark := maskIndices.map (fun m => darkCount (render v s.level cw m true) (4 * v + 17))
            symState := .made, final := true
            res := ⟨BitVec.ofNat 32 v, BitVec.ofNat 32 best.val, BitVec.ofNat 32 (4 * v + 17),
              BitVec.ofNat 32 (packedBits s.segs v)⟩
            err := .ok, running := none, done := true })

/-- R263: IS_DARK answers whether the cell is dark; outside MADE or outside the grid it is OUT_OF_BOUNDS. -/
def Obligations.IsDarkReadsGrid : Prop :=
  ∀ s : State,
    (s.symState ≠ .made ∨ s.moduleCount ≤ s.arg.w0.toNat ∨ s.moduleCount ≤ s.arg.w1.toNat → EndsWith .isDark s .outOfBounds) ∧
    (s.symState = .made → s.arg.w0.toNat < s.moduleCount → s.arg.w1.toNat < s.moduleCount →
      (s.grid.cell s.arg.w0.toNat s.arg.w1.toNat = .dark → Answers .isDark s ⟨1, 0, 0, 0⟩) ∧
      (s.grid.cell s.arg.w0.toNat s.arg.w1.toNat ≠ .dark → Answers .isDark s ⟨0, 0, 0, 0⟩))

/-! ## The host port -/

/-- R320: while a command runs, an aligned word write of CMD, ARG, SEG_FIFO, A_LEN, B_LEN or a cell of A or B only sets CMD_OVF; a write
of a read-only register or an unmapped offset does nothing; CTRL and STATUS writes act, a soft reset included. That the cycle of the
write is one of the command's, and that in the last of them the command completes after the write, is the model's (log entry 12). -/
def Obligations.BusyWritesAreIgnored : Prop :=
  ∀ (s : State) (a : Offset) (v : Word) (rest : List HostEvent) (c : Running),
    s.running = some c → s.events = .write .word a v :: rest → a.toNat % 4 = 0 →
    ((regAt a.toNat = .cmd ∨ (∃ i, regAt a.toNat = .arg i) ∨ regAt a.toNat = .segFifo ∨ (∃ w, regAt a.toNat = .winLen w) ∨
        (∃ w i, regAt a.toNat = .winCell w i) →
      CycleEnds c { s with events := rest, cmdOvf := true } (step s)) ∧
    (regAt a.toNat = .status →
      CycleEnds c { s with events := rest, done := s.done && !v.getLsbD 1, cmdOvf := s.cmdOvf && !v.getLsbD 6 } (step s)) ∧
    (regAt a.toNat = .ctrl → v.getLsbD 0 = false →
      CycleEnds c { s with events := rest, irqEn := v.getLsbD 1 } (step s)) ∧
    (regAt a.toNat = .ctrl → v.getLsbD 0 = true → step s = .next (s.withEvents rest).afterReset) ∧
    (regAt a.toNat ≠ .cmd → (∀ i, regAt a.toNat ≠ .arg i) → regAt a.toNat ≠ .segFifo → (∀ w, regAt a.toNat ≠ .winLen w) →
        (∀ w i, regAt a.toNat ≠ .winCell w i) → regAt a.toNat ≠ .status → regAt a.toNat ≠ .ctrl →
      CycleEnds c { s with events := rest } (step s)))

/-- R310, R311: the reset input, or a CTRL write with bit 0 set, busy or not and whatever bit 1 is, resets the block at once: every
register of R50 at its reset value, a command in progress abandoned without completion. The model's choice, and no claim of the
hardware: that no cell of A and B is listed, their contents unspecified anew (log entry 5); that `grid` is empty (log entry 6); that the
host's side (`events`, `rdata`, `latencies`, `free`) is kept (log entry 7); that the reset input is an event of one cycle (log entry
19). -/
def Obligations.SoftResetRestoresResetState : Prop :=
  ∀ (s : State) (e : HostEvent) (rest : List HostEvent),
    s.events = e :: rest → (e = .resetPin ∨ ∃ v : Word, e = .write .word 0x004 v ∧ v.getLsbD 0 = true) →
    step s = .next
      { State.reset with
        events := rest, rdata := s.rdata, latencies := s.latencies, epoch := s.epoch + 1, free := s.free }

/-- R21 to R46, R62, R63, R67, R321: the register map and what each register reads as. An aligned word read of an idle block returns the
register and changes nothing else; of a busy block, ID, CTRL, STATUS and an unmapped offset read their values and any other read, whose
value is free (log entry 4), changes nothing of the block. A byte, halfword or misaligned read or write is refused (log entry 8). That a
cycle of the command passes with the read, the last one with its completion, is the model's (log entry 12). -/
def Obligations.ReadsHaveNoSideEffect : Prop :=
  RegisterMap ∧ (∀ s : State, RegisterValues s) ∧
  (∀ (s : State) (size : AccessSize) (a : Offset) (rest : List HostEvent) (e : HostEvent),
    s.events = e :: rest → (e = .read size a ∨ ∃ v, e = .write size a v) →
    (size ≠ .word → step s = .refused .narrowAccess) ∧
    (size = .word → a.toNat % 4 ≠ 0 → step s = .refused .misalignedAccess)) ∧
  ∀ (s : State) (a : Offset) (rest : List HostEvent), s.events = .read .word a :: rest → a.toNat % 4 = 0 →
    (s.running = none → step s = .next { s with events := rest, rdata := s.regValue (regAt a.toNat) }) ∧
    (∀ c, s.running = some c →
      (regAt a.toNat = .id ∨ regAt a.toNat = .ctrl ∨ regAt a.toNat = .status ∨ regAt a.toNat = .unmapped →
        CycleEnds c { s with events := rest, rdata := s.regValue (regAt a.toNat) } (step s)) ∧
      ∃ x n, CycleEnds c { s with events := rest, rdata := x, free := n } (step s))

/-- R23, R24, R26, R39, R43, R62: an idle block takes the host's writes: ARG, a byte appended to STAGE or dropped with STAGE_OVF, A_LEN
and B_LEN up to 256, the low byte of a cell, DONE and CMD_OVF cleared by a 1, IRQ_EN; a write of a read-only register or an unmapped
offset does nothing. (A write of CMD is `WordIsExecutedOrEndsIllegal`'s, of CTRL with bit 0 set `SoftResetRestoresResetState`'s; the
offsets are `ReadsHaveNoSideEffect`'s.) -/
def Obligations.IdleWritesReachOperands : Prop :=
  ∀ (s : State) (a : Offset) (v : Word) (rest : List HostEvent),
    s.running = none → s.cells.wf = true → s.events = .write .word a v :: rest → a.toNat % 4 = 0 →
    (∀ i, regAt a.toNat = .arg i →
      ∃ q, step s = .next { s with events := rest, arg := q } ∧ q.get i = v ∧ ∀ j, j ≠ i → q.get j = s.arg.get j) ∧
    (regAt a.toNat = .segFifo →
      step s = .next
        (if s.stageLen < 8192 then { s with events := rest, stage := s.stage ++ [v.setWidth 8] }
         else { s with events := rest, stageOvf := true })) ∧
    (∀ w, regAt a.toNat = .winLen w →
      (256 < v.toNat → step s = .next { s with events := rest }) ∧
      (v.toNat ≤ 256 → ∃ t, step s = .next t ∧ t.winLen w = v.toNat ∧ (∀ w', w' ≠ w → t.winLen w' = s.winLen w') ∧
        { t with aLen := s.aLen, bLen := s.bLen } = { s with events := rest })) ∧
    (∀ w i, regAt a.toNat = .winCell w i →
      w.offset i = a.toNat ∧
      ∃ t, step s = .next t ∧ t.cell (w.offset i) = v.setWidth 8 ∧ (∀ b, b ≠ w.offset i → t.cell b = s.cell b) ∧
        { t with cells := s.cells } = { s with events := rest }) ∧
    (regAt a.toNat = .status →
      step s = .next { s with events := rest, done := s.done && !v.getLsbD 1, cmdOvf := s.cmdOvf && !v.getLsbD 6 }) ∧
    (regAt a.toNat = .ctrl → v.getLsbD 0 = false → step s = .next { s with events := rest, irqEn := v.getLsbD 1 }) ∧
    (regAt a.toNat ≠ .cmd → (∀ i, regAt a.toNat ≠ .arg i) → regAt a.toNat ≠ .segFifo → (∀ w, regAt a.toNat ≠ .winLen w) →
        (∀ w i, regAt a.toNat ≠ .winCell w i) → regAt a.toNat ≠ .status → regAt a.toNat ≠ .ctrl →
      step s = .next { s with events := rest })

/-- R287: irq is DONE and IRQ_EN: a completion raises it when enabled, acceptance of the next command, a 1 written to DONE, IRQ_EN = 0 and
reset drop it. -/
def Obligations.IrqFollowsDoneAndEnable : Prop :=
  ∀ s : State,
    s.irq = (s.done && s.irqEn) ∧
    (∀ i t, exec i s = .next t → t.irq = s.irqEn) ∧
    (∀ w, (s.accept w).irq = false) ∧
    (∀ v : Word, v.getLsbD 1 = true → (s.writeStatus v).irq = false) ∧
    (∀ v : Word, v.getLsbD 1 = false → (s.writeCtrl v).irq = false) ∧ s.afterReset.irq = false
end

