-- ==== Sys2Proof/Laws/Functions.lean ====
section
/-! SUPPORT. The small lemmas of the pure functions, and the parameters as numerals. -/

namespace Sys2Proof.Machine

@[simp] theorem vmax_eq : Config.vmax = 40 := rfl
@[simp] theorem polyMax_eq : Config.polyMax = 256 := rfl
@[simp] theorem bbMaxBits_eq : Config.bbMaxBits = 8192 := rfl
@[simp] theorem stageMax_eq : Config.stageMax = 8192 := rfl
@[simp] theorem segMax_eq : Config.segMax = 2048 := rfl
@[simp] theorem segStoreBytes_eq : Config.segStoreBytes = 8192 := rfl
@[simp] theorem genMaxL_eq : Config.genMaxL = 255 := rfl

/-- A version is a table key exactly from 1 to 40. -/
@[simp] theorem versionOk_iff (v : Nat) : versionOk v = true ↔ 1 ≤ v ∧ v ≤ 40 := by
  rw [versionOk, Bool.and_eq_true, decide_eq_true_eq, decide_eq_true_eq, vmax_eq]

/-! ## Results and operands -/

/-- A result below 2^32 is held exactly. -/
@[simp] theorem word_toNat (n : Nat) : (word n).toNat = n % 2 ^ 32 := by simp [word]

/-- A mask index is taken exactly below 8. -/
theorem maskIndex?_eq_some {n : Nat} {m : Fin 8} : maskIndex? n = some m ↔ m.val = n := by
  unfold maskIndex?
  split
  · rename_i h
    simp only [Option.some.injEq, Fin.ext_iff]
    exact eq_comm
  · rename_i h
    simp only [reduceCtorEq, false_iff]
    omega

/-- A level code names its level. -/
@[simp] theorem Level.ofCode?_code (lvl : Level) : Level.ofCode? lvl.code = some lvl := by cases lvl <;> rfl

/-- A mode code names its mode. -/
@[simp] theorem Mode.ofCode?_code (m : Mode) : Mode.ofCode? m.code = some m := by cases m <;> rfl

/-! ## Bits -/

@[simp] theorem fieldBits_length (value n : Nat) : (fieldBits value n).length = n := by simp [fieldBits]

@[simp] theorem put_length (buf : List Bool) (value n : Nat) : (put buf value n).length = buf.length + n := by simp [put]

@[simp] theorem putBit_length (buf : List Bool) (b : Bool) : (putBit buf b).length = buf.length + 1 := by simp [putBit]

/-- Bit `i` of a field is the value's bit `n - 1 - i`. -/
theorem fieldBits_getElem (value n i : Nat) (h : i < (fieldBits value n).length) :
    (fieldBits value n)[i] = value.testBit (n - 1 - i) := by simp [fieldBits]

/-! ## Polynomials -/

@[simp] theorem zeros_length (n : Nat) : (zeros n).length = n := by simp [zeros]

/-- Construct with no shift only strips. -/
@[simp] theorem construct_zero (p : Poly) : construct p 0 = strip p := by simp [construct, zeros]

/-- Stripping shortens or keeps. -/
theorem strip_length_le (p : Poly) : (strip p).length ≤ p.length := List.length_dropWhile_le _ _

/-- A polynomial whose leading coefficient is not 0 is stripped already. -/
theorem strip_cons_of_ne {c : Byte} (h : c ≠ 0) (cs : Poly) : strip (c :: cs) = c :: cs := by
  rw [strip, List.dropWhile_cons, if_neg (by simpa using h)]

/-- A leading zero is stripped. -/
@[simp] theorem strip_zero_cons (cs : Poly) : strip (0 :: cs) = strip cs := by simp [strip]

@[simp] theorem xorAt_length (num : Poly) (k : Nat) (c : Byte) : (xorAt num k c).length = num.length := by simp [xorAt]

@[simp] theorem pmulRow_length (ai : Byte) (num : Poly) (k : Nat) (b : Poly) :
    (pmulRow ai num k b).length = num.length := by
  induction b generalizing num k with
  | nil => rfl
  | cons bj bs ih => simp [pmulRow, ih]

@[simp] theorem pmulRows_length (b num : Poly) (i : Nat) (a : Poly) : (pmulRows b num i a).length = num.length := by
  induction a generalizing num i with
  | nil => rfl
  | cons ai as ih => simp [pmulRows, ih]

/-- A write of a coefficient other than the first keeps the first. -/
theorem xorAt_head (num : Poly) {k : Nat} (hk : 0 < k) (c : Byte) : (xorAt num k c).headD 0 = num.headD 0 := by
  cases num with
  | nil => simp [xorAt]
  | cons n ns =>
    cases k with
    | zero => omega
    | succ k => simp [xorAt]

theorem pmulRow_head (ai : Byte) (num : Poly) {k : Nat} (hk : 0 < k) (b : Poly) :
    (pmulRow ai num k b).headD 0 = num.headD 0 := by
  induction b generalizing num k with
  | nil => rfl
  | cons bj bs ih => rw [pmulRow, ih _ (Nat.succ_pos k), xorAt_head _ hk]

theorem pmulRows_head (b num : Poly) {i : Nat} (hi : 0 < i) (a : Poly) : (pmulRows b num i a).headD 0 = num.headD 0 := by
  induction a generalizing num i with
  | nil => rfl
  | cons ai as ih => rw [pmulRows, ih _ (Nat.succ_pos i), pmulRow_head _ _ hi]

theorem strip_eq_self {p : Poly} (h : p.headD 0 ≠ 0) : strip p = p := by
  cases p with
  | nil => rfl
  | cons c cs => exact strip_cons_of_ne h cs

/-- The product of polynomials whose leading coefficients are not 0 has the sum of their degrees. -/
theorem pmul_length {a b : Byte} (as bs : Poly) (ha : a ≠ 0) (hb : b ≠ 0) (h : gmul a b ≠ 0) :
    (pmul (a :: as) (b :: bs)).length = as.length + bs.length + 1 := by
  have hs : (pmulRows (b :: bs) (zeros ((a :: as).length + (b :: bs).length - 1)) 0 (a :: as)).headD 0 = gmul a b := by
    rw [pmulRows, pmulRows_head _ _ (Nat.succ_pos 0), pmulRow, pmulRow_head _ _ (Nat.succ_pos 0)]
    rw [show (a :: as).length + (b :: bs).length - 1 = as.length + bs.length + 1 by simp; omega]
    simp [xorAt, zeros, List.replicate_succ]
  simp only [pmul, construct_zero, strip_cons_of_ne ha, strip_cons_of_ne hb]
  rw [if_neg (by simp), strip_eq_self (by rw [hs]; exact h)]
  simp; omega

/-! ## The grid -/

@[simp] theorem Grid.setCell_length (g : Grid) (r c : Nat) (m : Module) : (g.setCell r c m).length = g.length := by
  simp [Grid.setCell]

@[simp] theorem Grid.write_length (g : Grid) (ws : List (Nat × Nat × Module)) : (g.write ws).length = g.length := by
  induction ws generalizing g with
  | nil => rfl
  | cons w ws ih => simp [Grid.write, ih]

@[simp] theorem Grid.blank_length (n : Nat) : (Grid.blank n).length = n := by simp [Grid.blank]

/-- Every write of a cell keeps the length of every row. -/
theorem Grid.setCell_rows {g : Grid} {n : Nat} (h : ∀ row ∈ g, row.length = n) (r c : Nat) (m : Module) :
    ∀ row ∈ g.setCell r c m, row.length = n := by
  intro row hrow
  by_cases hr : r < g.length
  · rcases List.mem_or_eq_of_mem_set hrow with hm | rfl
    · exact h row hm
    · rw [List.length_set, List.getD_eq_getElem _ _ hr]
      exact h _ (List.getElem_mem hr)
  · rw [Grid.setCell, List.set_eq_of_length_le (by omega)] at hrow
    exact h row hrow

/-- The mapper keeps the number of rows. -/
@[simp] theorem mapCells_length (cw : List Byte) (m : Fin 8) (g : Grid) (k : Nat) (cells : List (Nat × Nat)) :
    (mapCells cw m g k cells).length = g.length := by
  induction cells generalizing g k with
  | nil => rfl
  | cons p cells ih =>
    obtain ⟨r, c⟩ := p
    simp only [mapCells]
    split <;> simp [ih]

/-! ## The host's view -/

/-- The base is a multiple of 32 KiB (R61). -/
theorem qrcBase_aligned : Config.qrcBase % 32768 = 0 := by simp [Config.qrcBase]

end Sys2Proof.Machine
end

