-- ==== Sys2Proof/Laws/Memory.lean ====
section
/-! SUPPORT. The laws of the cells of windows A and B: the canonical form, read after write, and what a run of writes leaves. -/

namespace Sys2Proof.Machine

/-- The head of a canonical memory bounds what follows it. -/
theorem Memory.wf_cons {p : Host.Cell} {m : Memory} :
    Memory.wf (p :: m) = true ↔ Memory.wf m = true ∧ ∀ q ∈ m, p.1 < q.1 := by
  induction m generalizing p with
  | nil => simp [Memory.wf]
  | cons b rest ih =>
    simp only [Memory.wf, Bool.and_eq_true, decide_eq_true_eq, List.mem_cons, forall_eq_or_imp]
    constructor
    · rintro ⟨hlt, h⟩
      exact ⟨h, hlt, fun q hq => Nat.lt_trans hlt ((ih.1 h).2 q hq)⟩
    · rintro ⟨h, hlt, -⟩
      exact ⟨hlt, h⟩

/-- An entry of a memory after a write is the one written or an old one. -/
theorem Memory.mem_insert {m : Memory} {a : Nat} {b : Byte} {p : Host.Cell} (h : p ∈ m.insert a b) :
    p = (a, b) ∨ p ∈ m := by
  induction m with
  | nil => simpa [Memory.insert] using h
  | cons q rest ih =>
    obtain ⟨k, v⟩ := q
    simp only [Memory.insert] at h
    split at h
    · simpa using h
    · split at h
      · rcases List.mem_cons.1 h with rfl | h
        · rename_i h1 h2; simp [h2]
        · simp [h]
      · rcases List.mem_cons.1 h with rfl | h
        · simp
        · rcases ih h with rfl | h <;> simp [*]

/-- A write keeps the canonical form. -/
theorem Memory.insert_wf {m : Memory} (h : m.wf = true) (a : Nat) (b : Byte) : (m.insert a b).wf = true := by
  induction m with
  | nil => rfl
  | cons q rest ih =>
    obtain ⟨k, v⟩ := q
    obtain ⟨hr, hlt⟩ := Memory.wf_cons.1 h
    simp only [Memory.insert]
    split
    · rename_i hak
      refine Memory.wf_cons.2 ⟨h, fun p hp => ?_⟩
      rcases List.mem_cons.1 hp with rfl | hp
      · exact hak
      · exact Nat.lt_trans hak (hlt p hp)
    · split
      · exact Memory.wf_cons.2 ⟨hr, hlt⟩
      · refine Memory.wf_cons.2 ⟨ih hr, fun p hp => ?_⟩
        rcases Memory.mem_insert hp with rfl | hp
        · simp only; omega
        · exact hlt p hp

/-- Read after write, in any memory. -/
theorem Memory.find?_insert (m : Memory) (a a' : Nat) (b : Byte) (h : m.wf = true) :
    (m.insert a b).find? a' = if a' = a then some b else m.find? a' := by
  induction m with
  | nil => simp [Memory.insert, Memory.find?]
  | cons q rest ih =>
    obtain ⟨k, v⟩ := q
    obtain ⟨hr, -⟩ := Memory.wf_cons.1 h
    simp only [Memory.insert]
    split
    · simp [Memory.find?]
    · split
      · rename_i _ hak
        subst hak
        simp only [Memory.find?]
        split <;> rfl
      · rename_i h1 h2
        simp only [Memory.find?, ih hr]
        by_cases hk : a' = k
        · have hne : a' ≠ a := by omega
          simp [hk, show k ≠ a by omega]
        · simp [hk]

/-- Reset lists no cell, in canonical form. -/
theorem Memory.reset_wf : State.reset.cells.wf = true := rfl

/-- The cell written reads as the byte written; every other cell as before. -/
theorem State.cell_setCell (s : State) (h : s.cells.wf = true) (a a' : Nat) (b : Byte) :
    (s.setCell a b).cell a' = if a' = a then b else s.cell a' := by
  simp only [State.cell, State.setCell, Memory.find?_insert _ _ _ _ h]
  split <;> rfl

/-- A run of writes keeps the canonical form. -/
theorem State.setCells_wf (s : State) (h : s.cells.wf = true) (a : Nat) (p : List Byte) :
    (s.setCells a p).cells.wf = true := by
  induction p generalizing s a with
  | nil => exact h
  | cons b bs ih => exact ih (s.setCell a b) (Memory.insert_wf h a b) (a + 4)

/-- A run of writes leaves every cell it does not name. -/
theorem State.cell_setCells_other (s : State) (h : s.cells.wf = true) (a a' : Nat) (p : List Byte)
    (hne : ∀ i < p.length, a' ≠ a + 4 * i) : (s.setCells a p).cell a' = s.cell a' := by
  induction p generalizing s a with
  | nil => rfl
  | cons b bs ih =>
    simp only [State.setCells]
    rw [ih (s.setCell a b) (Memory.insert_wf h a b) (a + 4)
      (fun i hi => by have := hne (i + 1) (by simpa using hi); omega), State.cell_setCell _ h]
    have := hne 0 (by simp)
    simp [show a' ≠ a by simpa using this]

/-- A run of writes gives cell `i` the `i`-th byte. -/
theorem State.cell_setCells_same (s : State) (h : s.cells.wf = true) (a : Nat) (p : List Byte) (i : Nat)
    (hi : i < p.length) : (s.setCells a p).cell (a + 4 * i) = p[i] := by
  induction p generalizing s a i with
  | nil => simp at hi
  | cons b bs ih =>
    simp only [State.setCells]
    cases i with
    | zero =>
      rw [State.cell_setCells_other _ (Memory.insert_wf h a b) _ _ _ (fun i _ => by omega), State.cell_setCell _ h]
      simp
    | succ i =>
      have := ih (s.setCell a b) (Memory.insert_wf h a b) (a + 4) i (by simpa using hi)
      simpa [Nat.mul_add, Nat.add_assoc, Nat.add_comm 4] using this

/-- Every entry after a run of writes is an old one or at one of the offsets written. -/
theorem State.mem_setCells (s : State) (a : Nat) (p : List Byte) {q : Host.Cell} (hq : q ∈ (s.setCells a p).cells) :
    q ∈ s.cells ∨ ∃ i < p.length, q.1 = a + 4 * i := by
  induction p generalizing s a with
  | nil => exact .inl hq
  | cons b bs ih =>
    rcases ih (s.setCell a b) (a + 4) hq with h | ⟨i, hi, h⟩
    · rcases Memory.mem_insert h with rfl | h
      · exact .inr ⟨0, by simp, by simp⟩
      · exact .inl h
    · exact .inr ⟨i + 1, by simpa using hi, by omega⟩

/-! ## Windows -/

theorem State.winLen_writeWin (s : State) (w : Win) (p : List Byte) : (s.writeWin w p).winLen w = p.length := by
  cases w <;> rfl

theorem State.cell_writeWin (s : State) (w : Win) (p : List Byte) (a : Nat) :
    (s.writeWin w p).cell a = (s.setCells w.base p).cell a := by cases w <;> rfl

/-- A run of writes leaves the lengths. -/
theorem State.winLen_setCells (s : State) (a : Nat) (p : List Byte) (w : Win) : (s.setCells a p).winLen w = s.winLen w := by
  induction p generalizing s a with
  | nil => rfl
  | cons b bs ih => rw [State.setCells, ih]; cases w <;> rfl

/-- A window just written reads as the list written. -/
theorem State.rawList_writeWin (s : State) (h : s.cells.wf = true) (w : Win) (p : List Byte) :
    (s.writeWin w p).rawList w = p := by
  apply List.ext_getElem
  · simp [State.rawList, State.winLen_writeWin]
  · intro i h1 h2
    simp only [State.rawList, List.getElem_map, List.getElem_range, State.cell_writeWin, Win.offset]
    exact State.cell_setCells_same s h w.base p i h2

/-- A write of a window keeps the canonical form. -/
theorem State.writeWin_wf (s : State) (h : s.cells.wf = true) (w : Win) (p : List Byte) : (s.writeWin w p).cells.wf = true := by
  cases w <;> exact State.setCells_wf s h _ p

/-- A write of one window leaves the other. -/
theorem State.rawList_writeWin_other (s : State) (h : s.cells.wf = true) {w w' : Win} (hw : w' ≠ w) (hl : s.winLen w' ≤ 256)
    (p : List Byte) (hp : p.length ≤ 256) : (s.writeWin w p).rawList w' = s.rawList w' := by
  have hlen : (s.writeWin w p).winLen w' = s.winLen w' := by
    cases w <;> cases w' <;> first | exact absurd rfl hw | skip
    · exact State.winLen_setCells s _ p .b
    · exact State.winLen_setCells s _ p .a
  simp only [State.rawList, hlen]
  apply List.map_congr_left
  intro i hi
  have := List.mem_range.1 hi
  rw [State.cell_writeWin]
  apply State.cell_setCells_other s h
  intro j hj
  cases w <;> cases w' <;> simp only [Win.offset, Win.base] <;> first | exact absurd rfl hw | omega

end Sys2Proof.Machine
end

