-- ==== Sys2Proof/Laws/PerInstr.lean ====
section
/-! SUPPORT. Statements about every command as syntax, one lemma a constructor: its word is well formed and decodes to it. -/

namespace Sys2Proof.Laws.Encodes

/-- The command is well formed, its word has no reserved bit set and an assigned opcode, and decodes to it. -/
def Statement (i : Instr) : Prop :=
  i.wellFormed = true ∧ wordWellFormed (encode i) = true ∧ decodeWord (encode i) = .ok i

theorem nop : Statement .nop := ⟨rfl, by decide, rfl⟩
theorem create : Statement .create := ⟨rfl, by decide, rfl⟩
theorem addData : Statement .addData := ⟨rfl, by decide, rfl⟩
theorem make : Statement .make := ⟨rfl, by decide, rfl⟩
theorem isDark : Statement .isDark := ⟨rfl, by decide, rfl⟩
theorem stageClear : Statement .stageClear := ⟨rfl, by decide, rfl⟩
theorem gfExp : Statement .gfExp := ⟨rfl, by decide, rfl⟩
theorem gfLog : Statement .gfLog := ⟨rfl, by decide, rfl⟩
theorem gfMul : Statement .gfMul := ⟨rfl, by decide, rfl⟩
theorem polyConstruct : Statement .polyConstruct := ⟨rfl, by decide, rfl⟩
theorem polyMul : Statement .polyMul := ⟨rfl, by decide, rfl⟩
theorem polyMod : Statement .polyMod := ⟨rfl, by decide, rfl⟩
theorem polyMove : Statement .polyMove := ⟨rfl, by decide, rfl⟩
theorem rsGen : Statement .rsGen := ⟨rfl, by decide, rfl⟩
theorem rsEncode : Statement .rsEncode := ⟨rfl, by decide, rfl⟩
theorem ecPlan : Statement .ecPlan := ⟨rfl, by decide, rfl⟩
theorem rawModules : Statement .rawModules := ⟨rfl, by decide, rfl⟩
theorem ccw : Statement .ccw := ⟨rfl, by decide, rfl⟩
theorem bbClear : Statement .bbClear := ⟨rfl, by decide, rfl⟩
theorem bbPut : Statement .bbPut := ⟨rfl, by decide, rfl⟩
theorem bbPutbit : Statement .bbPutbit := ⟨rfl, by decide, rfl⟩
theorem bbGetbit : Statement .bbGetbit := ⟨rfl, by decide, rfl⟩
theorem render : Statement .render := ⟨rfl, by decide, rfl⟩
theorem penalty : Statement .penalty := ⟨rfl, by decide, rfl⟩
theorem maskEval : Statement .maskEval := ⟨rfl, by decide, rfl⟩
theorem formatBits : Statement .formatBits := ⟨rfl, by decide, rfl⟩
theorem versionBits : Statement .versionBits := ⟨rfl, by decide, rfl⟩
theorem alignPos : Statement .alignPos := ⟨rfl, by decide, rfl⟩

end Sys2Proof.Laws.Encodes
end

