-- ==== Sys2Proof/Laws/State.lean ====
section
/-! SUPPORT. One lemma per field per update of the state, so that no proof unfolds a record update. -/

namespace Sys2Proof.Machine

variable (s : State)

/-! ## accept (R282) -/

@[simp] theorem State.accept_irqEn (w : Word) : (s.accept w).irqEn = s.irqEn := rfl
@[simp] theorem State.accept_done (w : Word) : (s.accept w).done = false := rfl
@[simp] theorem State.accept_symState (w : Word) : (s.accept w).symState = s.symState := rfl
@[simp] theorem State.accept_final (w : Word) : (s.accept w).final = s.final := rfl
@[simp] theorem State.accept_stageOvf (w : Word) : (s.accept w).stageOvf = s.stageOvf := rfl
@[simp] theorem State.accept_cmdOvf (w : Word) : (s.accept w).cmdOvf = s.cmdOvf := rfl
@[simp] theorem State.accept_err (w : Word) : (s.accept w).err = s.err := rfl
@[simp] theorem State.accept_running (w : Word) : (s.accept w).running = some ⟨w, 1 + s.latencies.headD 0⟩ := rfl
@[simp] theorem State.accept_arg (w : Word) : (s.accept w).arg = s.arg := rfl
@[simp] theorem State.accept_res (w : Word) : (s.accept w).res = s.res := rfl
@[simp] theorem State.accept_versionReq (w : Word) : (s.accept w).versionReq = s.versionReq := rfl
@[simp] theorem State.accept_level (w : Word) : (s.accept w).level = s.level := rfl
@[simp] theorem State.accept_versionEff (w : Word) : (s.accept w).versionEff = s.versionEff := rfl
@[simp] theorem State.accept_moduleCount (w : Word) : (s.accept w).moduleCount = s.moduleCount := rfl
@[simp] theorem State.accept_mask (w : Word) : (s.accept w).mask = s.mask := rfl
@[simp] theorem State.accept_dataBits (w : Word) : (s.accept w).dataBits = s.dataBits := rfl
@[simp] theorem State.accept_cw (w : Word) : (s.accept w).cw = s.cw := rfl
@[simp] theorem State.accept_trialP123 (w : Word) : (s.accept w).trialP123 = s.trialP123 := rfl
@[simp] theorem State.accept_trialDark (w : Word) : (s.accept w).trialDark = s.trialDark := rfl
@[simp] theorem State.accept_stage (w : Word) : (s.accept w).stage = s.stage := rfl
@[simp] theorem State.accept_segs (w : Word) : (s.accept w).segs = s.segs := rfl
@[simp] theorem State.accept_bb (w : Word) : (s.accept w).bb = s.bb := rfl
@[simp] theorem State.accept_aLen (w : Word) : (s.accept w).aLen = s.aLen := rfl
@[simp] theorem State.accept_bLen (w : Word) : (s.accept w).bLen = s.bLen := rfl
@[simp] theorem State.accept_cells (w : Word) : (s.accept w).cells = s.cells := rfl
@[simp] theorem State.accept_r (w : Word) : (s.accept w).r = s.r := rfl
@[simp] theorem State.accept_grid (w : Word) : (s.accept w).grid = s.grid := rfl
@[simp] theorem State.accept_events (w : Word) : (s.accept w).events = s.events := rfl
@[simp] theorem State.accept_rdata (w : Word) : (s.accept w).rdata = s.rdata := rfl
@[simp] theorem State.accept_latencies (w : Word) : (s.accept w).latencies = s.latencies.tail := rfl
@[simp] theorem State.accept_epoch (w : Word) : (s.accept w).epoch = s.epoch := rfl
@[simp] theorem State.accept_free (w : Word) : (s.accept w).free = s.free := rfl

/-! ## complete (R283) -/

@[simp] theorem State.complete_irqEn (e : ErrCode) (q : Quad) : (s.complete e q).irqEn = s.irqEn := rfl
@[simp] theorem State.complete_done (e : ErrCode) (q : Quad) : (s.complete e q).done = true := rfl
@[simp] theorem State.complete_symState (e : ErrCode) (q : Quad) : (s.complete e q).symState = s.symState := rfl
@[simp] theorem State.complete_final (e : ErrCode) (q : Quad) : (s.complete e q).final = s.final := rfl
@[simp] theorem State.complete_stageOvf (e : ErrCode) (q : Quad) : (s.complete e q).stageOvf = s.stageOvf := rfl
@[simp] theorem State.complete_cmdOvf (e : ErrCode) (q : Quad) : (s.complete e q).cmdOvf = s.cmdOvf := rfl
@[simp] theorem State.complete_err (e : ErrCode) (q : Quad) : (s.complete e q).err = e := rfl
@[simp] theorem State.complete_running (e : ErrCode) (q : Quad) : (s.complete e q).running = none := rfl
@[simp] theorem State.complete_arg (e : ErrCode) (q : Quad) : (s.complete e q).arg = s.arg := rfl
@[simp] theorem State.complete_res (e : ErrCode) (q : Quad) : (s.complete e q).res = q := rfl
@[simp] theorem State.complete_versionReq (e : ErrCode) (q : Quad) : (s.complete e q).versionReq = s.versionReq := rfl
@[simp] theorem State.complete_level (e : ErrCode) (q : Quad) : (s.complete e q).level = s.level := rfl
@[simp] theorem State.complete_versionEff (e : ErrCode) (q : Quad) : (s.complete e q).versionEff = s.versionEff := rfl
@[simp] theorem State.complete_moduleCount (e : ErrCode) (q : Quad) : (s.complete e q).moduleCount = s.moduleCount := rfl
@[simp] theorem State.complete_mask (e : ErrCode) (q : Quad) : (s.complete e q).mask = s.mask := rfl
@[simp] theorem State.complete_dataBits (e : ErrCode) (q : Quad) : (s.complete e q).dataBits = s.dataBits := rfl
@[simp] theorem State.complete_cw (e : ErrCode) (q : Quad) : (s.complete e q).cw = s.cw := rfl
@[simp] theorem State.complete_trialP123 (e : ErrCode) (q : Quad) : (s.complete e q).trialP123 = s.trialP123 := rfl
@[simp] theorem State.complete_trialDark (e : ErrCode) (q : Quad) : (s.complete e q).trialDark = s.trialDark := rfl
@[simp] theorem State.complete_stage (e : ErrCode) (q : Quad) : (s.complete e q).stage = s.stage := rfl
@[simp] theorem State.complete_segs (e : ErrCode) (q : Quad) : (s.complete e q).segs = s.segs := rfl
@[simp] theorem State.complete_bb (e : ErrCode) (q : Quad) : (s.complete e q).bb = s.bb := rfl
@[simp] theorem State.complete_aLen (e : ErrCode) (q : Quad) : (s.complete e q).aLen = s.aLen := rfl
@[simp] theorem State.complete_bLen (e : ErrCode) (q : Quad) : (s.complete e q).bLen = s.bLen := rfl
@[simp] theorem State.complete_cells (e : ErrCode) (q : Quad) : (s.complete e q).cells = s.cells := rfl
@[simp] theorem State.complete_r (e : ErrCode) (q : Quad) : (s.complete e q).r = s.r := rfl
@[simp] theorem State.complete_grid (e : ErrCode) (q : Quad) : (s.complete e q).grid = s.grid := rfl
@[simp] theorem State.complete_events (e : ErrCode) (q : Quad) : (s.complete e q).events = s.events := rfl
@[simp] theorem State.complete_rdata (e : ErrCode) (q : Quad) : (s.complete e q).rdata = s.rdata := rfl
@[simp] theorem State.complete_latencies (e : ErrCode) (q : Quad) : (s.complete e q).latencies = s.latencies := rfl
@[simp] theorem State.complete_epoch (e : ErrCode) (q : Quad) : (s.complete e q).epoch = s.epoch := rfl
@[simp] theorem State.complete_free (e : ErrCode) (q : Quad) : (s.complete e q).free = s.free := rfl

/-! ## clearStage (R40) -/

@[simp] theorem State.clearStage_irqEn : (s.clearStage).irqEn = s.irqEn := rfl
@[simp] theorem State.clearStage_done : (s.clearStage).done = s.done := rfl
@[simp] theorem State.clearStage_symState : (s.clearStage).symState = s.symState := rfl
@[simp] theorem State.clearStage_final : (s.clearStage).final = s.final := rfl
@[simp] theorem State.clearStage_stageOvf : (s.clearStage).stageOvf = false := rfl
@[simp] theorem State.clearStage_cmdOvf : (s.clearStage).cmdOvf = s.cmdOvf := rfl
@[simp] theorem State.clearStage_err : (s.clearStage).err = s.err := rfl
@[simp] theorem State.clearStage_running : (s.clearStage).running = s.running := rfl
@[simp] theorem State.clearStage_arg : (s.clearStage).arg = s.arg := rfl
@[simp] theorem State.clearStage_res : (s.clearStage).res = s.res := rfl
@[simp] theorem State.clearStage_versionReq : (s.clearStage).versionReq = s.versionReq := rfl
@[simp] theorem State.clearStage_level : (s.clearStage).level = s.level := rfl
@[simp] theorem State.clearStage_versionEff : (s.clearStage).versionEff = s.versionEff := rfl
@[simp] theorem State.clearStage_moduleCount : (s.clearStage).moduleCount = s.moduleCount := rfl
@[simp] theorem State.clearStage_mask : (s.clearStage).mask = s.mask := rfl
@[simp] theorem State.clearStage_dataBits : (s.clearStage).dataBits = s.dataBits := rfl
@[simp] theorem State.clearStage_cw : (s.clearStage).cw = s.cw := rfl
@[simp] theorem State.clearStage_trialP123 : (s.clearStage).trialP123 = s.trialP123 := rfl
@[simp] theorem State.clearStage_trialDark : (s.clearStage).trialDark = s.trialDark := rfl
@[simp] theorem State.clearStage_stage : (s.clearStage).stage = [] := rfl
@[simp] theorem State.clearStage_segs : (s.clearStage).segs = s.segs := rfl
@[simp] theorem State.clearStage_bb : (s.clearStage).bb = s.bb := rfl
@[simp] theorem State.clearStage_aLen : (s.clearStage).aLen = s.aLen := rfl
@[simp] theorem State.clearStage_bLen : (s.clearStage).bLen = s.bLen := rfl
@[simp] theorem State.clearStage_cells : (s.clearStage).cells = s.cells := rfl
@[simp] theorem State.clearStage_r : (s.clearStage).r = s.r := rfl
@[simp] theorem State.clearStage_grid : (s.clearStage).grid = s.grid := rfl
@[simp] theorem State.clearStage_events : (s.clearStage).events = s.events := rfl
@[simp] theorem State.clearStage_rdata : (s.clearStage).rdata = s.rdata := rfl
@[simp] theorem State.clearStage_latencies : (s.clearStage).latencies = s.latencies := rfl
@[simp] theorem State.clearStage_epoch : (s.clearStage).epoch = s.epoch := rfl
@[simp] theorem State.clearStage_free : (s.clearStage).free = s.free := rfl

/-! ## clearMade (R150, R260) -/

@[simp] theorem State.clearMade_irqEn : (s.clearMade).irqEn = s.irqEn := rfl
@[simp] theorem State.clearMade_done : (s.clearMade).done = s.done := rfl
@[simp] theorem State.clearMade_symState : (s.clearMade).symState = s.symState := rfl
@[simp] theorem State.clearMade_final : (s.clearMade).final = s.final := rfl
@[simp] theorem State.clearMade_stageOvf : (s.clearMade).stageOvf = s.stageOvf := rfl
@[simp] theorem State.clearMade_cmdOvf : (s.clearMade).cmdOvf = s.cmdOvf := rfl
@[simp] theorem State.clearMade_err : (s.clearMade).err = s.err := rfl
@[simp] theorem State.clearMade_running : (s.clearMade).running = s.running := rfl
@[simp] theorem State.clearMade_arg : (s.clearMade).arg = s.arg := rfl
@[simp] theorem State.clearMade_res : (s.clearMade).res = s.res := rfl
@[simp] theorem State.clearMade_versionReq : (s.clearMade).versionReq = s.versionReq := rfl
@[simp] theorem State.clearMade_level : (s.clearMade).level = s.level := rfl
@[simp] theorem State.clearMade_versionEff : (s.clearMade).versionEff = 0 := rfl
@[simp] theorem State.clearMade_moduleCount : (s.clearMade).moduleCount = 0 := rfl
@[simp] theorem State.clearMade_mask : (s.clearMade).mask = 0 := rfl
@[simp] theorem State.clearMade_dataBits : (s.clearMade).dataBits = 0 := rfl
@[simp] theorem State.clearMade_cw : (s.clearMade).cw = [] := rfl
@[simp] theorem State.clearMade_trialP123 : (s.clearMade).trialP123 = List.replicate 8 0 := rfl
@[simp] theorem State.clearMade_trialDark : (s.clearMade).trialDark = List.replicate 8 0 := rfl
@[simp] theorem State.clearMade_stage : (s.clearMade).stage = s.stage := rfl
@[simp] theorem State.clearMade_segs : (s.clearMade).segs = s.segs := rfl
@[simp] theorem State.clearMade_bb : (s.clearMade).bb = s.bb := rfl
@[simp] theorem State.clearMade_aLen : (s.clearMade).aLen = s.aLen := rfl
@[simp] theorem State.clearMade_bLen : (s.clearMade).bLen = s.bLen := rfl
@[simp] theorem State.clearMade_cells : (s.clearMade).cells = s.cells := rfl
@[simp] theorem State.clearMade_r : (s.clearMade).r = s.r := rfl
@[simp] theorem State.clearMade_grid : (s.clearMade).grid = s.grid := rfl
@[simp] theorem State.clearMade_events : (s.clearMade).events = s.events := rfl
@[simp] theorem State.clearMade_rdata : (s.clearMade).rdata = s.rdata := rfl
@[simp] theorem State.clearMade_latencies : (s.clearMade).latencies = s.latencies := rfl
@[simp] theorem State.clearMade_epoch : (s.clearMade).epoch = s.epoch := rfl
@[simp] theorem State.clearMade_free : (s.clearMade).free = s.free := rfl

/-! ## setCell (R43) -/

@[simp] theorem State.setCell_irqEn (a : Nat) (b : Byte) : (s.setCell a b).irqEn = s.irqEn := rfl
@[simp] theorem State.setCell_done (a : Nat) (b : Byte) : (s.setCell a b).done = s.done := rfl
@[simp] theorem State.setCell_symState (a : Nat) (b : Byte) : (s.setCell a b).symState = s.symState := rfl
@[simp] theorem State.setCell_final (a : Nat) (b : Byte) : (s.setCell a b).final = s.final := rfl
@[simp] theorem State.setCell_stageOvf (a : Nat) (b : Byte) : (s.setCell a b).stageOvf = s.stageOvf := rfl
@[simp] theorem State.setCell_cmdOvf (a : Nat) (b : Byte) : (s.setCell a b).cmdOvf = s.cmdOvf := rfl
@[simp] theorem State.setCell_err (a : Nat) (b : Byte) : (s.setCell a b).err = s.err := rfl
@[simp] theorem State.setCell_running (a : Nat) (b : Byte) : (s.setCell a b).running = s.running := rfl
@[simp] theorem State.setCell_arg (a : Nat) (b : Byte) : (s.setCell a b).arg = s.arg := rfl
@[simp] theorem State.setCell_res (a : Nat) (b : Byte) : (s.setCell a b).res = s.res := rfl
@[simp] theorem State.setCell_versionReq (a : Nat) (b : Byte) : (s.setCell a b).versionReq = s.versionReq := rfl
@[simp] theorem State.setCell_level (a : Nat) (b : Byte) : (s.setCell a b).level = s.level := rfl
@[simp] theorem State.setCell_versionEff (a : Nat) (b : Byte) : (s.setCell a b).versionEff = s.versionEff := rfl
@[simp] theorem State.setCell_moduleCount (a : Nat) (b : Byte) : (s.setCell a b).moduleCount = s.moduleCount := rfl
@[simp] theorem State.setCell_mask (a : Nat) (b : Byte) : (s.setCell a b).mask = s.mask := rfl
@[simp] theorem State.setCell_dataBits (a : Nat) (b : Byte) : (s.setCell a b).dataBits = s.dataBits := rfl
@[simp] theorem State.setCell_cw (a : Nat) (b : Byte) : (s.setCell a b).cw = s.cw := rfl
@[simp] theorem State.setCell_trialP123 (a : Nat) (b : Byte) : (s.setCell a b).trialP123 = s.trialP123 := rfl
@[simp] theorem State.setCell_trialDark (a : Nat) (b : Byte) : (s.setCell a b).trialDark = s.trialDark := rfl
@[simp] theorem State.setCell_stage (a : Nat) (b : Byte) : (s.setCell a b).stage = s.stage := rfl
@[simp] theorem State.setCell_segs (a : Nat) (b : Byte) : (s.setCell a b).segs = s.segs := rfl
@[simp] theorem State.setCell_bb (a : Nat) (b : Byte) : (s.setCell a b).bb = s.bb := rfl
@[simp] theorem State.setCell_aLen (a : Nat) (b : Byte) : (s.setCell a b).aLen = s.aLen := rfl
@[simp] theorem State.setCell_bLen (a : Nat) (b : Byte) : (s.setCell a b).bLen = s.bLen := rfl
@[simp] theorem State.setCell_cells (a : Nat) (b : Byte) : (s.setCell a b).cells = s.cells.insert a b := rfl
@[simp] theorem State.setCell_r (a : Nat) (b : Byte) : (s.setCell a b).r = s.r := rfl
@[simp] theorem State.setCell_grid (a : Nat) (b : Byte) : (s.setCell a b).grid = s.grid := rfl
@[simp] theorem State.setCell_events (a : Nat) (b : Byte) : (s.setCell a b).events = s.events := rfl
@[simp] theorem State.setCell_rdata (a : Nat) (b : Byte) : (s.setCell a b).rdata = s.rdata := rfl
@[simp] theorem State.setCell_latencies (a : Nat) (b : Byte) : (s.setCell a b).latencies = s.latencies := rfl
@[simp] theorem State.setCell_epoch (a : Nat) (b : Byte) : (s.setCell a b).epoch = s.epoch := rfl
@[simp] theorem State.setCell_free (a : Nat) (b : Byte) : (s.setCell a b).free = s.free := rfl

/-! ## writeR (R43) -/

@[simp] theorem State.writeR_irqEn (p : List Byte) : (s.writeR p).irqEn = s.irqEn := rfl
@[simp] theorem State.writeR_done (p : List Byte) : (s.writeR p).done = s.done := rfl
@[simp] theorem State.writeR_symState (p : List Byte) : (s.writeR p).symState = s.symState := rfl
@[simp] theorem State.writeR_final (p : List Byte) : (s.writeR p).final = s.final := rfl
@[simp] theorem State.writeR_stageOvf (p : List Byte) : (s.writeR p).stageOvf = s.stageOvf := rfl
@[simp] theorem State.writeR_cmdOvf (p : List Byte) : (s.writeR p).cmdOvf = s.cmdOvf := rfl
@[simp] theorem State.writeR_err (p : List Byte) : (s.writeR p).err = s.err := rfl
@[simp] theorem State.writeR_running (p : List Byte) : (s.writeR p).running = s.running := rfl
@[simp] theorem State.writeR_arg (p : List Byte) : (s.writeR p).arg = s.arg := rfl
@[simp] theorem State.writeR_res (p : List Byte) : (s.writeR p).res = s.res := rfl
@[simp] theorem State.writeR_versionReq (p : List Byte) : (s.writeR p).versionReq = s.versionReq := rfl
@[simp] theorem State.writeR_level (p : List Byte) : (s.writeR p).level = s.level := rfl
@[simp] theorem State.writeR_versionEff (p : List Byte) : (s.writeR p).versionEff = s.versionEff := rfl
@[simp] theorem State.writeR_moduleCount (p : List Byte) : (s.writeR p).moduleCount = s.moduleCount := rfl
@[simp] theorem State.writeR_mask (p : List Byte) : (s.writeR p).mask = s.mask := rfl
@[simp] theorem State.writeR_dataBits (p : List Byte) : (s.writeR p).dataBits = s.dataBits := rfl
@[simp] theorem State.writeR_cw (p : List Byte) : (s.writeR p).cw = s.cw := rfl
@[simp] theorem State.writeR_trialP123 (p : List Byte) : (s.writeR p).trialP123 = s.trialP123 := rfl
@[simp] theorem State.writeR_trialDark (p : List Byte) : (s.writeR p).trialDark = s.trialDark := rfl
@[simp] theorem State.writeR_stage (p : List Byte) : (s.writeR p).stage = s.stage := rfl
@[simp] theorem State.writeR_segs (p : List Byte) : (s.writeR p).segs = s.segs := rfl
@[simp] theorem State.writeR_bb (p : List Byte) : (s.writeR p).bb = s.bb := rfl
@[simp] theorem State.writeR_aLen (p : List Byte) : (s.writeR p).aLen = s.aLen := rfl
@[simp] theorem State.writeR_bLen (p : List Byte) : (s.writeR p).bLen = s.bLen := rfl
@[simp] theorem State.writeR_cells (p : List Byte) : (s.writeR p).cells = s.cells := rfl
@[simp] theorem State.writeR_r (p : List Byte) : (s.writeR p).r = p := rfl
@[simp] theorem State.writeR_grid (p : List Byte) : (s.writeR p).grid = s.grid := rfl
@[simp] theorem State.writeR_events (p : List Byte) : (s.writeR p).events = s.events := rfl
@[simp] theorem State.writeR_rdata (p : List Byte) : (s.writeR p).rdata = s.rdata := rfl
@[simp] theorem State.writeR_latencies (p : List Byte) : (s.writeR p).latencies = s.latencies := rfl
@[simp] theorem State.writeR_epoch (p : List Byte) : (s.writeR p).epoch = s.epoch := rfl
@[simp] theorem State.writeR_free (p : List Byte) : (s.writeR p).free = s.free := rfl

/-! ## addSegment (R150) -/

@[simp] theorem State.addSegment_irqEn (m : Mode) : (s.addSegment m).irqEn = s.irqEn := rfl
@[simp] theorem State.addSegment_done (m : Mode) : (s.addSegment m).done = s.done := rfl
@[simp] theorem State.addSegment_symState (m : Mode) : (s.addSegment m).symState = .pending := rfl
@[simp] theorem State.addSegment_final (m : Mode) : (s.addSegment m).final = false := rfl
@[simp] theorem State.addSegment_stageOvf (m : Mode) : (s.addSegment m).stageOvf = false := rfl
@[simp] theorem State.addSegment_cmdOvf (m : Mode) : (s.addSegment m).cmdOvf = s.cmdOvf := rfl
@[simp] theorem State.addSegment_err (m : Mode) : (s.addSegment m).err = s.err := rfl
@[simp] theorem State.addSegment_running (m : Mode) : (s.addSegment m).running = s.running := rfl
@[simp] theorem State.addSegment_arg (m : Mode) : (s.addSegment m).arg = s.arg := rfl
@[simp] theorem State.addSegment_res (m : Mode) : (s.addSegment m).res = s.res := rfl
@[simp] theorem State.addSegment_versionReq (m : Mode) : (s.addSegment m).versionReq = s.versionReq := rfl
@[simp] theorem State.addSegment_level (m : Mode) : (s.addSegment m).level = s.level := rfl
@[simp] theorem State.addSegment_versionEff (m : Mode) : (s.addSegment m).versionEff = 0 := rfl
@[simp] theorem State.addSegment_moduleCount (m : Mode) : (s.addSegment m).moduleCount = 0 := rfl
@[simp] theorem State.addSegment_mask (m : Mode) : (s.addSegment m).mask = 0 := rfl
@[simp] theorem State.addSegment_dataBits (m : Mode) : (s.addSegment m).dataBits = 0 := rfl
@[simp] theorem State.addSegment_cw (m : Mode) : (s.addSegment m).cw = [] := rfl
@[simp] theorem State.addSegment_trialP123 (m : Mode) : (s.addSegment m).trialP123 = List.replicate 8 0 := rfl
@[simp] theorem State.addSegment_trialDark (m : Mode) : (s.addSegment m).trialDark = List.replicate 8 0 := rfl
@[simp] theorem State.addSegment_stage (m : Mode) : (s.addSegment m).stage = [] := rfl
@[simp] theorem State.addSegment_segs (m : Mode) : (s.addSegment m).segs = s.segs ++ [⟨m, s.stage⟩] := rfl
@[simp] theorem State.addSegment_bb (m : Mode) : (s.addSegment m).bb = s.bb := rfl
@[simp] theorem State.addSegment_aLen (m : Mode) : (s.addSegment m).aLen = s.aLen := rfl
@[simp] theorem State.addSegment_bLen (m : Mode) : (s.addSegment m).bLen = s.bLen := rfl
@[simp] theorem State.addSegment_cells (m : Mode) : (s.addSegment m).cells = s.cells := rfl
@[simp] theorem State.addSegment_r (m : Mode) : (s.addSegment m).r = s.r := rfl
@[simp] theorem State.addSegment_grid (m : Mode) : (s.addSegment m).grid = s.grid := rfl
@[simp] theorem State.addSegment_events (m : Mode) : (s.addSegment m).events = s.events := rfl
@[simp] theorem State.addSegment_rdata (m : Mode) : (s.addSegment m).rdata = s.rdata := rfl
@[simp] theorem State.addSegment_latencies (m : Mode) : (s.addSegment m).latencies = s.latencies := rfl
@[simp] theorem State.addSegment_epoch (m : Mode) : (s.addSegment m).epoch = s.epoch := rfl
@[simp] theorem State.addSegment_free (m : Mode) : (s.addSegment m).free = s.free := rfl

/-! ## newSymbol (R260) -/

@[simp] theorem State.newSymbol_irqEn (v : Nat) (lvl : Level) : (s.newSymbol v lvl).irqEn = s.irqEn := rfl
@[simp] theorem State.newSymbol_done (v : Nat) (lvl : Level) : (s.newSymbol v lvl).done = s.done := rfl
@[simp] theorem State.newSymbol_symState (v : Nat) (lvl : Level) : (s.newSymbol v lvl).symState = .empty := rfl
@[simp] theorem State.newSymbol_final (v : Nat) (lvl : Level) : (s.newSymbol v lvl).final = false := rfl
@[simp] theorem State.newSymbol_stageOvf (v : Nat) (lvl : Level) : (s.newSymbol v lvl).stageOvf = false := rfl
@[simp] theorem State.newSymbol_cmdOvf (v : Nat) (lvl : Level) : (s.newSymbol v lvl).cmdOvf = s.cmdOvf := rfl
@[simp] theorem State.newSymbol_err (v : Nat) (lvl : Level) : (s.newSymbol v lvl).err = s.err := rfl
@[simp] theorem State.newSymbol_running (v : Nat) (lvl : Level) : (s.newSymbol v lvl).running = s.running := rfl
@[simp] theorem State.newSymbol_arg (v : Nat) (lvl : Level) : (s.newSymbol v lvl).arg = s.arg := rfl
@[simp] theorem State.newSymbol_res (v : Nat) (lvl : Level) : (s.newSymbol v lvl).res = s.res := rfl
@[simp] theorem State.newSymbol_versionReq (v : Nat) (lvl : Level) : (s.newSymbol v lvl).versionReq = v := rfl
@[simp] theorem State.newSymbol_level (v : Nat) (lvl : Level) : (s.newSymbol v lvl).level = lvl := rfl
@[simp] theorem State.newSymbol_versionEff (v : Nat) (lvl : Level) : (s.newSymbol v lvl).versionEff = 0 := rfl
@[simp] theorem State.newSymbol_moduleCount (v : Nat) (lvl : Level) : (s.newSymbol v lvl).moduleCount = 0 := rfl
@[simp] theorem State.newSymbol_mask (v : Nat) (lvl : Level) : (s.newSymbol v lvl).mask = 0 := rfl
@[simp] theorem State.newSymbol_dataBits (v : Nat) (lvl : Level) : (s.newSymbol v lvl).dataBits = 0 := rfl
@[simp] theorem State.newSymbol_cw (v : Nat) (lvl : Level) : (s.newSymbol v lvl).cw = [] := rfl
@[simp] theorem State.newSymbol_trialP123 (v : Nat) (lvl : Level) : (s.newSymbol v lvl).trialP123 = List.replicate 8 0 := rfl
@[simp] theorem State.newSymbol_trialDark (v : Nat) (lvl : Level) : (s.newSymbol v lvl).trialDark = List.replicate 8 0 := rfl
@[simp] theorem State.newSymbol_stage (v : Nat) (lvl : Level) : (s.newSymbol v lvl).stage = [] := rfl
@[simp] theorem State.newSymbol_segs (v : Nat) (lvl : Level) : (s.newSymbol v lvl).segs = [] := rfl
@[simp] theorem State.newSymbol_bb (v : Nat) (lvl : Level) : (s.newSymbol v lvl).bb = s.bb := rfl
@[simp] theorem State.newSymbol_aLen (v : Nat) (lvl : Level) : (s.newSymbol v lvl).aLen = s.aLen := rfl
@[simp] theorem State.newSymbol_bLen (v : Nat) (lvl : Level) : (s.newSymbol v lvl).bLen = s.bLen := rfl
@[simp] theorem State.newSymbol_cells (v : Nat) (lvl : Level) : (s.newSymbol v lvl).cells = s.cells := rfl
@[simp] theorem State.newSymbol_r (v : Nat) (lvl : Level) : (s.newSymbol v lvl).r = s.r := rfl
@[simp] theorem State.newSymbol_grid (v : Nat) (lvl : Level) : (s.newSymbol v lvl).grid = s.grid := rfl
@[simp] theorem State.newSymbol_events (v : Nat) (lvl : Level) : (s.newSymbol v lvl).events = s.events := rfl
@[simp] theorem State.newSymbol_rdata (v : Nat) (lvl : Level) : (s.newSymbol v lvl).rdata = s.rdata := rfl
@[simp] theorem State.newSymbol_latencies (v : Nat) (lvl : Level) : (s.newSymbol v lvl).latencies = s.latencies := rfl
@[simp] theorem State.newSymbol_epoch (v : Nat) (lvl : Level) : (s.newSymbol v lvl).epoch = s.epoch := rfl
@[simp] theorem State.newSymbol_free (v : Nat) (lvl : Level) : (s.newSymbol v lvl).free = s.free := rfl

/-! ## commit (R261) -/

@[simp] theorem State.commit_irqEn (x : Symbol) : (s.commit x).irqEn = s.irqEn := rfl
@[simp] theorem State.commit_done (x : Symbol) : (s.commit x).done = s.done := rfl
@[simp] theorem State.commit_symState (x : Symbol) : (s.commit x).symState = .made := rfl
@[simp] theorem State.commit_final (x : Symbol) : (s.commit x).final = true := rfl
@[simp] theorem State.commit_stageOvf (x : Symbol) : (s.commit x).stageOvf = s.stageOvf := rfl
@[simp] theorem State.commit_cmdOvf (x : Symbol) : (s.commit x).cmdOvf = s.cmdOvf := rfl
@[simp] theorem State.commit_err (x : Symbol) : (s.commit x).err = s.err := rfl
@[simp] theorem State.commit_running (x : Symbol) : (s.commit x).running = s.running := rfl
@[simp] theorem State.commit_arg (x : Symbol) : (s.commit x).arg = s.arg := rfl
@[simp] theorem State.commit_res (x : Symbol) : (s.commit x).res = s.res := rfl
@[simp] theorem State.commit_versionReq (x : Symbol) : (s.commit x).versionReq = s.versionReq := rfl
@[simp] theorem State.commit_level (x : Symbol) : (s.commit x).level = s.level := rfl
@[simp] theorem State.commit_versionEff (x : Symbol) : (s.commit x).versionEff = x.version := rfl
@[simp] theorem State.commit_moduleCount (x : Symbol) : (s.commit x).moduleCount = sideOf x.version := rfl
@[simp] theorem State.commit_mask (x : Symbol) : (s.commit x).mask = x.mask := rfl
@[simp] theorem State.commit_dataBits (x : Symbol) : (s.commit x).dataBits = x.dataBits := rfl
@[simp] theorem State.commit_cw (x : Symbol) : (s.commit x).cw = x.codewords := rfl
@[simp] theorem State.commit_trialP123 (x : Symbol) : (s.commit x).trialP123 = x.scores.map Score.p123 := rfl
@[simp] theorem State.commit_trialDark (x : Symbol) : (s.commit x).trialDark = x.scores.map Score.dark := rfl
@[simp] theorem State.commit_stage (x : Symbol) : (s.commit x).stage = s.stage := rfl
@[simp] theorem State.commit_segs (x : Symbol) : (s.commit x).segs = s.segs := rfl
@[simp] theorem State.commit_bb (x : Symbol) : (s.commit x).bb = s.bb := rfl
@[simp] theorem State.commit_aLen (x : Symbol) : (s.commit x).aLen = s.aLen := rfl
@[simp] theorem State.commit_bLen (x : Symbol) : (s.commit x).bLen = s.bLen := rfl
@[simp] theorem State.commit_cells (x : Symbol) : (s.commit x).cells = s.cells := rfl
@[simp] theorem State.commit_r (x : Symbol) : (s.commit x).r = s.r := rfl
@[simp] theorem State.commit_grid (x : Symbol) : (s.commit x).grid = x.grid := rfl
@[simp] theorem State.commit_events (x : Symbol) : (s.commit x).events = s.events := rfl
@[simp] theorem State.commit_rdata (x : Symbol) : (s.commit x).rdata = s.rdata := rfl
@[simp] theorem State.commit_latencies (x : Symbol) : (s.commit x).latencies = s.latencies := rfl
@[simp] theorem State.commit_epoch (x : Symbol) : (s.commit x).epoch = s.epoch := rfl
@[simp] theorem State.commit_free (x : Symbol) : (s.commit x).free = s.free := rfl

/-! ## overrun (R320) -/

@[simp] theorem State.overrun_irqEn : (s.overrun).irqEn = s.irqEn := rfl
@[simp] theorem State.overrun_done : (s.overrun).done = s.done := rfl
@[simp] theorem State.overrun_symState : (s.overrun).symState = s.symState := rfl
@[simp] theorem State.overrun_final : (s.overrun).final = s.final := rfl
@[simp] theorem State.overrun_stageOvf : (s.overrun).stageOvf = s.stageOvf := rfl
@[simp] theorem State.overrun_cmdOvf : (s.overrun).cmdOvf = true := rfl
@[simp] theorem State.overrun_err : (s.overrun).err = s.err := rfl
@[simp] theorem State.overrun_running : (s.overrun).running = s.running := rfl
@[simp] theorem State.overrun_arg : (s.overrun).arg = s.arg := rfl
@[simp] theorem State.overrun_res : (s.overrun).res = s.res := rfl
@[simp] theorem State.overrun_versionReq : (s.overrun).versionReq = s.versionReq := rfl
@[simp] theorem State.overrun_level : (s.overrun).level = s.level := rfl
@[simp] theorem State.overrun_versionEff : (s.overrun).versionEff = s.versionEff := rfl
@[simp] theorem State.overrun_moduleCount : (s.overrun).moduleCount = s.moduleCount := rfl
@[simp] theorem State.overrun_mask : (s.overrun).mask = s.mask := rfl
@[simp] theorem State.overrun_dataBits : (s.overrun).dataBits = s.dataBits := rfl
@[simp] theorem State.overrun_cw : (s.overrun).cw = s.cw := rfl
@[simp] theorem State.overrun_trialP123 : (s.overrun).trialP123 = s.trialP123 := rfl
@[simp] theorem State.overrun_trialDark : (s.overrun).trialDark = s.trialDark := rfl
@[simp] theorem State.overrun_stage : (s.overrun).stage = s.stage := rfl
@[simp] theorem State.overrun_segs : (s.overrun).segs = s.segs := rfl
@[simp] theorem State.overrun_bb : (s.overrun).bb = s.bb := rfl
@[simp] theorem State.overrun_aLen : (s.overrun).aLen = s.aLen := rfl
@[simp] theorem State.overrun_bLen : (s.overrun).bLen = s.bLen := rfl
@[simp] theorem State.overrun_cells : (s.overrun).cells = s.cells := rfl
@[simp] theorem State.overrun_r : (s.overrun).r = s.r := rfl
@[simp] theorem State.overrun_grid : (s.overrun).grid = s.grid := rfl
@[simp] theorem State.overrun_events : (s.overrun).events = s.events := rfl
@[simp] theorem State.overrun_rdata : (s.overrun).rdata = s.rdata := rfl
@[simp] theorem State.overrun_latencies : (s.overrun).latencies = s.latencies := rfl
@[simp] theorem State.overrun_epoch : (s.overrun).epoch = s.epoch := rfl
@[simp] theorem State.overrun_free : (s.overrun).free = s.free := rfl

/-! ## withEvents (R70) -/

@[simp] theorem State.withEvents_irqEn (l : List HostEvent) : (s.withEvents l).irqEn = s.irqEn := rfl
@[simp] theorem State.withEvents_done (l : List HostEvent) : (s.withEvents l).done = s.done := rfl
@[simp] theorem State.withEvents_symState (l : List HostEvent) : (s.withEvents l).symState = s.symState := rfl
@[simp] theorem State.withEvents_final (l : List HostEvent) : (s.withEvents l).final = s.final := rfl
@[simp] theorem State.withEvents_stageOvf (l : List HostEvent) : (s.withEvents l).stageOvf = s.stageOvf := rfl
@[simp] theorem State.withEvents_cmdOvf (l : List HostEvent) : (s.withEvents l).cmdOvf = s.cmdOvf := rfl
@[simp] theorem State.withEvents_err (l : List HostEvent) : (s.withEvents l).err = s.err := rfl
@[simp] theorem State.withEvents_running (l : List HostEvent) : (s.withEvents l).running = s.running := rfl
@[simp] theorem State.withEvents_arg (l : List HostEvent) : (s.withEvents l).arg = s.arg := rfl
@[simp] theorem State.withEvents_res (l : List HostEvent) : (s.withEvents l).res = s.res := rfl
@[simp] theorem State.withEvents_versionReq (l : List HostEvent) : (s.withEvents l).versionReq = s.versionReq := rfl
@[simp] theorem State.withEvents_level (l : List HostEvent) : (s.withEvents l).level = s.level := rfl
@[simp] theorem State.withEvents_versionEff (l : List HostEvent) : (s.withEvents l).versionEff = s.versionEff := rfl
@[simp] theorem State.withEvents_moduleCount (l : List HostEvent) : (s.withEvents l).moduleCount = s.moduleCount := rfl
@[simp] theorem State.withEvents_mask (l : List HostEvent) : (s.withEvents l).mask = s.mask := rfl
@[simp] theorem State.withEvents_dataBits (l : List HostEvent) : (s.withEvents l).dataBits = s.dataBits := rfl
@[simp] theorem State.withEvents_cw (l : List HostEvent) : (s.withEvents l).cw = s.cw := rfl
@[simp] theorem State.withEvents_trialP123 (l : List HostEvent) : (s.withEvents l).trialP123 = s.trialP123 := rfl
@[simp] theorem State.withEvents_trialDark (l : List HostEvent) : (s.withEvents l).trialDark = s.trialDark := rfl
@[simp] theorem State.withEvents_stage (l : List HostEvent) : (s.withEvents l).stage = s.stage := rfl
@[simp] theorem State.withEvents_segs (l : List HostEvent) : (s.withEvents l).segs = s.segs := rfl
@[simp] theorem State.withEvents_bb (l : List HostEvent) : (s.withEvents l).bb = s.bb := rfl
@[simp] theorem State.withEvents_aLen (l : List HostEvent) : (s.withEvents l).aLen = s.aLen := rfl
@[simp] theorem State.withEvents_bLen (l : List HostEvent) : (s.withEvents l).bLen = s.bLen := rfl
@[simp] theorem State.withEvents_cells (l : List HostEvent) : (s.withEvents l).cells = s.cells := rfl
@[simp] theorem State.withEvents_r (l : List HostEvent) : (s.withEvents l).r = s.r := rfl
@[simp] theorem State.withEvents_grid (l : List HostEvent) : (s.withEvents l).grid = s.grid := rfl
@[simp] theorem State.withEvents_events (l : List HostEvent) : (s.withEvents l).events = l := rfl
@[simp] theorem State.withEvents_rdata (l : List HostEvent) : (s.withEvents l).rdata = s.rdata := rfl
@[simp] theorem State.withEvents_latencies (l : List HostEvent) : (s.withEvents l).latencies = s.latencies := rfl
@[simp] theorem State.withEvents_epoch (l : List HostEvent) : (s.withEvents l).epoch = s.epoch := rfl
@[simp] theorem State.withEvents_free (l : List HostEvent) : (s.withEvents l).free = s.free := rfl

/-! ## writeStatus (R24) -/

@[simp] theorem State.writeStatus_irqEn (v : Word) : (s.writeStatus v).irqEn = s.irqEn := rfl
@[simp] theorem State.writeStatus_done (v : Word) : (s.writeStatus v).done = (s.done && !wordBit v 1) := rfl
@[simp] theorem State.writeStatus_symState (v : Word) : (s.writeStatus v).symState = s.symState := rfl
@[simp] theorem State.writeStatus_final (v : Word) : (s.writeStatus v).final = s.final := rfl
@[simp] theorem State.writeStatus_stageOvf (v : Word) : (s.writeStatus v).stageOvf = s.stageOvf := rfl
@[simp] theorem State.writeStatus_cmdOvf (v : Word) : (s.writeStatus v).cmdOvf = (s.cmdOvf && !wordBit v 6) := rfl
@[simp] theorem State.writeStatus_err (v : Word) : (s.writeStatus v).err = s.err := rfl
@[simp] theorem State.writeStatus_running (v : Word) : (s.writeStatus v).running = s.running := rfl
@[simp] theorem State.writeStatus_arg (v : Word) : (s.writeStatus v).arg = s.arg := rfl
@[simp] theorem State.writeStatus_res (v : Word) : (s.writeStatus v).res = s.res := rfl
@[simp] theorem State.writeStatus_versionReq (v : Word) : (s.writeStatus v).versionReq = s.versionReq := rfl
@[simp] theorem State.writeStatus_level (v : Word) : (s.writeStatus v).level = s.level := rfl
@[simp] theorem State.writeStatus_versionEff (v : Word) : (s.writeStatus v).versionEff = s.versionEff := rfl
@[simp] theorem State.writeStatus_moduleCount (v : Word) : (s.writeStatus v).moduleCount = s.moduleCount := rfl
@[simp] theorem State.writeStatus_mask (v : Word) : (s.writeStatus v).mask = s.mask := rfl
@[simp] theorem State.writeStatus_dataBits (v : Word) : (s.writeStatus v).dataBits = s.dataBits := rfl
@[simp] theorem State.writeStatus_cw (v : Word) : (s.writeStatus v).cw = s.cw := rfl
@[simp] theorem State.writeStatus_trialP123 (v : Word) : (s.writeStatus v).trialP123 = s.trialP123 := rfl
@[simp] theorem State.writeStatus_trialDark (v : Word) : (s.writeStatus v).trialDark = s.trialDark := rfl
@[simp] theorem State.writeStatus_stage (v : Word) : (s.writeStatus v).stage = s.stage := rfl
@[simp] theorem State.writeStatus_segs (v : Word) : (s.writeStatus v).segs = s.segs := rfl
@[simp] theorem State.writeStatus_bb (v : Word) : (s.writeStatus v).bb = s.bb := rfl
@[simp] theorem State.writeStatus_aLen (v : Word) : (s.writeStatus v).aLen = s.aLen := rfl
@[simp] theorem State.writeStatus_bLen (v : Word) : (s.writeStatus v).bLen = s.bLen := rfl
@[simp] theorem State.writeStatus_cells (v : Word) : (s.writeStatus v).cells = s.cells := rfl
@[simp] theorem State.writeStatus_r (v : Word) : (s.writeStatus v).r = s.r := rfl
@[simp] theorem State.writeStatus_grid (v : Word) : (s.writeStatus v).grid = s.grid := rfl
@[simp] theorem State.writeStatus_events (v : Word) : (s.writeStatus v).events = s.events := rfl
@[simp] theorem State.writeStatus_rdata (v : Word) : (s.writeStatus v).rdata = s.rdata := rfl
@[simp] theorem State.writeStatus_latencies (v : Word) : (s.writeStatus v).latencies = s.latencies := rfl
@[simp] theorem State.writeStatus_epoch (v : Word) : (s.writeStatus v).epoch = s.epoch := rfl
@[simp] theorem State.writeStatus_free (v : Word) : (s.writeStatus v).free = s.free := rfl

/-! ## afterReset (R310, R311): the reset value, but for the host's side -/

@[simp] theorem State.afterReset_irqEn : s.afterReset.irqEn = false := rfl
@[simp] theorem State.afterReset_done : s.afterReset.done = false := rfl
@[simp] theorem State.afterReset_symState : s.afterReset.symState = .empty := rfl
@[simp] theorem State.afterReset_final : s.afterReset.final = false := rfl
@[simp] theorem State.afterReset_stageOvf : s.afterReset.stageOvf = false := rfl
@[simp] theorem State.afterReset_cmdOvf : s.afterReset.cmdOvf = false := rfl
@[simp] theorem State.afterReset_err : s.afterReset.err = .ok := rfl
@[simp] theorem State.afterReset_running : s.afterReset.running = none := rfl
@[simp] theorem State.afterReset_arg : s.afterReset.arg = Quad.zero := rfl
@[simp] theorem State.afterReset_res : s.afterReset.res = Quad.zero := rfl
@[simp] theorem State.afterReset_versionReq : s.afterReset.versionReq = 0 := rfl
@[simp] theorem State.afterReset_level : s.afterReset.level = .low := rfl
@[simp] theorem State.afterReset_versionEff : s.afterReset.versionEff = 0 := rfl
@[simp] theorem State.afterReset_moduleCount : s.afterReset.moduleCount = 0 := rfl
@[simp] theorem State.afterReset_mask : s.afterReset.mask = 0 := rfl
@[simp] theorem State.afterReset_dataBits : s.afterReset.dataBits = 0 := rfl
@[simp] theorem State.afterReset_cw : s.afterReset.cw = [] := rfl
@[simp] theorem State.afterReset_trialP123 : s.afterReset.trialP123 = List.replicate 8 0 := rfl
@[simp] theorem State.afterReset_trialDark : s.afterReset.trialDark = List.replicate 8 0 := rfl
@[simp] theorem State.afterReset_stage : s.afterReset.stage = [] := rfl
@[simp] theorem State.afterReset_segs : s.afterReset.segs = [] := rfl
@[simp] theorem State.afterReset_bb : s.afterReset.bb = [] := rfl
@[simp] theorem State.afterReset_aLen : s.afterReset.aLen = 0 := rfl
@[simp] theorem State.afterReset_bLen : s.afterReset.bLen = 0 := rfl
@[simp] theorem State.afterReset_cells : s.afterReset.cells = [] := rfl
@[simp] theorem State.afterReset_r : s.afterReset.r = [] := rfl
@[simp] theorem State.afterReset_grid : s.afterReset.grid = [] := rfl
@[simp] theorem State.afterReset_events : s.afterReset.events = s.events := rfl
@[simp] theorem State.afterReset_rdata : s.afterReset.rdata = s.rdata := rfl
@[simp] theorem State.afterReset_latencies : s.afterReset.latencies = s.latencies := rfl
@[simp] theorem State.afterReset_epoch : s.afterReset.epoch = s.epoch + 1 := rfl
@[simp] theorem State.afterReset_free : s.afterReset.free = s.free := rfl

/-! ## setWinLen and setCells (R43): the fields they leave -/

@[simp] theorem State.setWinLen_irqEn (w : Win) (n : Nat) : (s.setWinLen w n).irqEn = s.irqEn := by cases w <;> rfl
@[simp] theorem State.setWinLen_done (w : Win) (n : Nat) : (s.setWinLen w n).done = s.done := by cases w <;> rfl
@[simp] theorem State.setWinLen_symState (w : Win) (n : Nat) : (s.setWinLen w n).symState = s.symState := by cases w <;> rfl
@[simp] theorem State.setWinLen_final (w : Win) (n : Nat) : (s.setWinLen w n).final = s.final := by cases w <;> rfl
@[simp] theorem State.setWinLen_stageOvf (w : Win) (n : Nat) : (s.setWinLen w n).stageOvf = s.stageOvf := by cases w <;> rfl
@[simp] theorem State.setWinLen_cmdOvf (w : Win) (n : Nat) : (s.setWinLen w n).cmdOvf = s.cmdOvf := by cases w <;> rfl
@[simp] theorem State.setWinLen_err (w : Win) (n : Nat) : (s.setWinLen w n).err = s.err := by cases w <;> rfl
@[simp] theorem State.setWinLen_running (w : Win) (n : Nat) : (s.setWinLen w n).running = s.running := by cases w <;> rfl
@[simp] theorem State.setWinLen_arg (w : Win) (n : Nat) : (s.setWinLen w n).arg = s.arg := by cases w <;> rfl
@[simp] theorem State.setWinLen_res (w : Win) (n : Nat) : (s.setWinLen w n).res = s.res := by cases w <;> rfl
@[simp] theorem State.setWinLen_versionReq (w : Win) (n : Nat) : (s.setWinLen w n).versionReq = s.versionReq := by cases w <;> rfl
@[simp] theorem State.setWinLen_level (w : Win) (n : Nat) : (s.setWinLen w n).level = s.level := by cases w <;> rfl
@[simp] theorem State.setWinLen_versionEff (w : Win) (n : Nat) : (s.setWinLen w n).versionEff = s.versionEff := by cases w <;> rfl
@[simp] theorem State.setWinLen_moduleCount (w : Win) (n : Nat) : (s.setWinLen w n).moduleCount = s.moduleCount := by cases w <;> rfl
@[simp] theorem State.setWinLen_mask (w : Win) (n : Nat) : (s.setWinLen w n).mask = s.mask := by cases w <;> rfl
@[simp] theorem State.setWinLen_dataBits (w : Win) (n : Nat) : (s.setWinLen w n).dataBits = s.dataBits := by cases w <;> rfl
@[simp] theorem State.setWinLen_cw (w : Win) (n : Nat) : (s.setWinLen w n).cw = s.cw := by cases w <;> rfl
@[simp] theorem State.setWinLen_trialP123 (w : Win) (n : Nat) : (s.setWinLen w n).trialP123 = s.trialP123 := by cases w <;> rfl
@[simp] theorem State.setWinLen_trialDark (w : Win) (n : Nat) : (s.setWinLen w n).trialDark = s.trialDark := by cases w <;> rfl
@[simp] theorem State.setWinLen_stage (w : Win) (n : Nat) : (s.setWinLen w n).stage = s.stage := by cases w <;> rfl
@[simp] theorem State.setWinLen_segs (w : Win) (n : Nat) : (s.setWinLen w n).segs = s.segs := by cases w <;> rfl
@[simp] theorem State.setWinLen_bb (w : Win) (n : Nat) : (s.setWinLen w n).bb = s.bb := by cases w <;> rfl
@[simp] theorem State.setWinLen_cells (w : Win) (n : Nat) : (s.setWinLen w n).cells = s.cells := by cases w <;> rfl
@[simp] theorem State.setWinLen_r (w : Win) (n : Nat) : (s.setWinLen w n).r = s.r := by cases w <;> rfl
@[simp] theorem State.setWinLen_grid (w : Win) (n : Nat) : (s.setWinLen w n).grid = s.grid := by cases w <;> rfl
@[simp] theorem State.setWinLen_events (w : Win) (n : Nat) : (s.setWinLen w n).events = s.events := by cases w <;> rfl
@[simp] theorem State.setWinLen_rdata (w : Win) (n : Nat) : (s.setWinLen w n).rdata = s.rdata := by cases w <;> rfl
@[simp] theorem State.setWinLen_latencies (w : Win) (n : Nat) : (s.setWinLen w n).latencies = s.latencies := by cases w <;> rfl
@[simp] theorem State.setWinLen_epoch (w : Win) (n : Nat) : (s.setWinLen w n).epoch = s.epoch := by cases w <;> rfl
@[simp] theorem State.setWinLen_free (w : Win) (n : Nat) : (s.setWinLen w n).free = s.free := by cases w <;> rfl

@[simp] theorem State.setCells_irqEn (a : Nat) (p : List Byte) : (s.setCells a p).irqEn = s.irqEn := by
  induction p generalizing s a with
  | nil => rfl
  | cons b bs ih => exact ih (s.setCell a b) (a + 4)
@[simp] theorem State.setCells_done (a : Nat) (p : List Byte) : (s.setCells a p).done = s.done := by
  induction p generalizing s a with
  | nil => rfl
  | cons b bs ih => exact ih (s.setCell a b) (a + 4)
@[simp] theorem State.setCells_symState (a : Nat) (p : List Byte) : (s.setCells a p).symState = s.symState := by
  induction p generalizing s a with
  | nil => rfl
  | cons b bs ih => exact ih (s.setCell a b) (a + 4)
@[simp] theorem State.setCells_final (a : Nat) (p : List Byte) : (s.setCells a p).final = s.final := by
  induction p generalizing s a with
  | nil => rfl
  | cons b bs ih => exact ih (s.setCell a b) (a + 4)
@[simp] theorem State.setCells_stageOvf (a : Nat) (p : List Byte) : (s.setCells a p).stageOvf = s.stageOvf := by
  induction p generalizing s a with
  | nil => rfl
  | cons b bs ih => exact ih (s.setCell a b) (a + 4)
@[simp] theorem State.setCells_cmdOvf (a : Nat) (p : List Byte) : (s.setCells a p).cmdOvf = s.cmdOvf := by
  induction p generalizing s a with
  | nil => rfl
  | cons b bs ih => exact ih (s.setCell a b) (a + 4)
@[simp] theorem State.setCells_err (a : Nat) (p : List Byte) : (s.setCells a p).err = s.err := by
  induction p generalizing s a with
  | nil => rfl
  | cons b bs ih => exact ih (s.setCell a b) (a + 4)
@[simp] theorem State.setCells_running (a : Nat) (p : List Byte) : (s.setCells a p).running = s.running := by
  induction p generalizing s a with
  | nil => rfl
  | cons b bs ih => exact ih (s.setCell a b) (a + 4)
@[simp] theorem State.setCells_arg (a : Nat) (p : List Byte) : (s.setCells a p).arg = s.arg := by
  induction p generalizing s a with
  | nil => rfl
  | cons b bs ih => exact ih (s.setCell a b) (a + 4)
@[simp] theorem State.setCells_res (a : Nat) (p : List Byte) : (s.setCells a p).res = s.res := by
  induction p generalizing s a with
  | nil => rfl
  | cons b bs ih => exact ih (s.setCell a b) (a + 4)
@[simp] theorem State.setCells_versionReq (a : Nat) (p : List Byte) : (s.setCells a p).versionReq = s.versionReq := by
  induction p generalizing s a with
  | nil => rfl
  | cons b bs ih => exact ih (s.setCell a b) (a + 4)
@[simp] theorem State.setCells_level (a : Nat) (p : List Byte) : (s.setCells a p).level = s.level := by
  induction p generalizing s a with
  | nil => rfl
  | cons b bs ih => exact ih (s.setCell a b) (a + 4)
@[simp] theorem State.setCells_versionEff (a : Nat) (p : List Byte) : (s.setCells a p).versionEff = s.versionEff := by
  induction p generalizing s a with
  | nil => rfl
  | cons b bs ih => exact ih (s.setCell a b) (a + 4)
@[simp] theorem State.setCells_moduleCount (a : Nat) (p : List Byte) : (s.setCells a p).moduleCount = s.moduleCount := by
  induction p generalizing s a with
  | nil => rfl
  | cons b bs ih => exact ih (s.setCell a b) (a + 4)
@[simp] theorem State.setCells_mask (a : Nat) (p : List Byte) : (s.setCells a p).mask = s.mask := by
  induction p generalizing s a with
  | nil => rfl
  | cons b bs ih => exact ih (s.setCell a b) (a + 4)
@[simp] theorem State.setCells_dataBits (a : Nat) (p : List Byte) : (s.setCells a p).dataBits = s.dataBits := by
  induction p generalizing s a with
  | nil => rfl
  | cons b bs ih => exact ih (s.setCell a b) (a + 4)
@[simp] theorem State.setCells_cw (a : Nat) (p : List Byte) : (s.setCells a p).cw = s.cw := by
  induction p generalizing s a with
  | nil => rfl
  | cons b bs ih => exact ih (s.setCell a b) (a + 4)
@[simp] theorem State.setCells_trialP123 (a : Nat) (p : List Byte) : (s.setCells a p).trialP123 = s.trialP123 := by
  induction p generalizing s a with
  | nil => rfl
  | cons b bs ih => exact ih (s.setCell a b) (a + 4)
@[simp] theorem State.setCells_trialDark (a : Nat) (p : List Byte) : (s.setCells a p).trialDark = s.trialDark := by
  induction p generalizing s a with
  | nil => rfl
  | cons b bs ih => exact ih (s.setCell a b) (a + 4)
@[simp] theorem State.setCells_stage (a : Nat) (p : List Byte) : (s.setCells a p).stage = s.stage := by
  induction p generalizing s a with
  | nil => rfl
  | cons b bs ih => exact ih (s.setCell a b) (a + 4)
@[simp] theorem State.setCells_segs (a : Nat) (p : List Byte) : (s.setCells a p).segs = s.segs := by
  induction p generalizing s a with
  | nil => rfl
  | cons b bs ih => exact ih (s.setCell a b) (a + 4)
@[simp] theorem State.setCells_bb (a : Nat) (p : List Byte) : (s.setCells a p).bb = s.bb := by
  induction p generalizing s a with
  | nil => rfl
  | cons b bs ih => exact ih (s.setCell a b) (a + 4)
@[simp] theorem State.setCells_aLen (a : Nat) (p : List Byte) : (s.setCells a p).aLen = s.aLen := by
  induction p generalizing s a with
  | nil => rfl
  | cons b bs ih => exact ih (s.setCell a b) (a + 4)
@[simp] theorem State.setCells_bLen (a : Nat) (p : List Byte) : (s.setCells a p).bLen = s.bLen := by
  induction p generalizing s a with
  | nil => rfl
  | cons b bs ih => exact ih (s.setCell a b) (a + 4)
@[simp] theorem State.setCells_r (a : Nat) (p : List Byte) : (s.setCells a p).r = s.r := by
  induction p generalizing s a with
  | nil => rfl
  | cons b bs ih => exact ih (s.setCell a b) (a + 4)
@[simp] theorem State.setCells_grid (a : Nat) (p : List Byte) : (s.setCells a p).grid = s.grid := by
  induction p generalizing s a with
  | nil => rfl
  | cons b bs ih => exact ih (s.setCell a b) (a + 4)
@[simp] theorem State.setCells_events (a : Nat) (p : List Byte) : (s.setCells a p).events = s.events := by
  induction p generalizing s a with
  | nil => rfl
  | cons b bs ih => exact ih (s.setCell a b) (a + 4)
@[simp] theorem State.setCells_rdata (a : Nat) (p : List Byte) : (s.setCells a p).rdata = s.rdata := by
  induction p generalizing s a with
  | nil => rfl
  | cons b bs ih => exact ih (s.setCell a b) (a + 4)
@[simp] theorem State.setCells_latencies (a : Nat) (p : List Byte) : (s.setCells a p).latencies = s.latencies := by
  induction p generalizing s a with
  | nil => rfl
  | cons b bs ih => exact ih (s.setCell a b) (a + 4)
@[simp] theorem State.setCells_epoch (a : Nat) (p : List Byte) : (s.setCells a p).epoch = s.epoch := by
  induction p generalizing s a with
  | nil => rfl
  | cons b bs ih => exact ih (s.setCell a b) (a + 4)
@[simp] theorem State.setCells_free (a : Nat) (p : List Byte) : (s.setCells a p).free = s.free := by
  induction p generalizing s a with
  | nil => rfl
  | cons b bs ih => exact ih (s.setCell a b) (a + 4)

end Sys2Proof.Machine
end

