-- ==== Sys2Proof/Laws/Step.lean ====
section
/-! SUPPORT. What the shared operations of a step can do, each said once: completion, a host event, the end of a cycle, a
step. -/

namespace Sys2Proof.Machine

/-- A command that ends well answers its writes with the results and ERR = OK. -/
@[simp] theorem succeed_eq_next (s t : State) (q : Quad) : succeed s q = .next t ↔ s.complete .ok q = t := by
  simp [succeed]

/-- A command that ends with an error answers the state before it but for STATUS and RES. -/
@[simp] theorem raise_eq_next (e : ErrCode) (s t : State) : raise e s = .next t ↔ s.complete e Quad.zero = t := by
  simp [raise]

/-- The views of a completed state. -/
@[simp] theorem State.complete_cell (s : State) (e : ErrCode) (q : Quad) (a : Nat) : (s.complete e q).cell a = s.cell a := rfl
@[simp] theorem State.complete_busy (s : State) (e : ErrCode) (q : Quad) : (s.complete e q).busy = false := rfl
@[simp] theorem State.accept_busy (s : State) (w : Word) : (s.accept w).busy = true := rfl
@[simp] theorem State.accept_cell (s : State) (w : Word) (a : Nat) : (s.accept w).cell a = s.cell a := rfl

/-- What a host event can do, when the port does not refuse it. -/
theorem State.hostEvent_cases {s t : State} {e : HostEvent} (h : s.hostEvent e = .next t) :
    (e = .idle ∧ t = s) ∨ (e = .resetPin ∧ t = s.afterReset) ∨
    (∃ a, e = .read .word a ∧ a.toNat % 4 = 0 ∧ t = s.busRead a.toNat) ∨
    (∃ a v, e = .write .word a v ∧ a.toNat % 4 = 0 ∧ t = s.busWrite a.toNat v) := by
  cases e with
  | idle => exact .inl ⟨rfl, by simpa [State.hostEvent] using h.symm⟩
  | resetPin => exact .inr (.inl ⟨rfl, by simpa [State.hostEvent] using h.symm⟩)
  | read size a =>
    cases size <;> simp only [State.hostEvent, accessRefusal?] at h <;> first | exact absurd h (by simp) | skip
    split at h
    · exact absurd h (by simp)
    · rename_i hn
      refine .inr (.inr (.inl ⟨a, rfl, ?_, by simpa using h.symm⟩))
      by_contra hc
      simp [hc] at hn
  | write size a v =>
    cases size <;> simp only [State.hostEvent, accessRefusal?] at h <;> first | exact absurd h (by simp) | skip
    split at h
    · exact absurd h (by simp)
    · rename_i hn
      refine .inr (.inr (.inr ⟨a, v, rfl, ?_, by simpa using h.symm⟩))
      by_contra hc
      simp [hc] at hn

/-- What the end of a cycle can do: nothing, count a cycle, or complete the command. -/
theorem tick_cases {run : Instr → State → Result} {s t : State} (h : tick run s = .next t) :
    (s.running = none ∧ t = s) ∨
    (∃ c, s.running = some c ∧ 1 < c.left ∧ t = { s with running := some ⟨c.cmd, c.left - 1⟩ }) ∨
    (∃ c i, s.running = some c ∧ c.left ≤ 1 ∧ decodeWord c.cmd = .ok i ∧ run i s = .next t) ∨
    (∃ c e, s.running = some c ∧ c.left ≤ 1 ∧ decodeWord c.cmd = .error e ∧ t = s.complete .illegalCmd Quad.zero) := by
  unfold tick at h
  cases hr : s.running with
  | none => simp only [hr] at h; exact .inl ⟨rfl, by simpa using h.symm⟩
  | some c =>
    simp only [hr] at h
    by_cases hl : c.left ≤ 1
    · rw [if_pos hl] at h
      unfold finish at h
      cases hd : decodeWord c.cmd with
      | ok i => rw [hd] at h; exact .inr (.inr (.inl ⟨c, i, rfl, hl, hd, h⟩))
      | error e =>
        rw [hd] at h
        exact .inr (.inr (.inr ⟨c, e, rfl, hl, hd, ((raise_eq_next _ _ _).1 h).symm⟩))
    · rw [if_neg hl] at h
      exact .inr (.inl ⟨c, rfl, by omega, by simpa using h.symm⟩)

/-- What a step can do: the oldest host event, if there is one, then the end of the cycle. -/
theorem step_cases {s t : State} (h : step s = .next t) :
    (s.events = [] ∧ tick exec s = .next t) ∨
    (∃ e rest s', s.events = e :: rest ∧ (s.withEvents rest).hostEvent e = .next s' ∧
      tick exec s' = .next t) := by
  unfold step cycle at h
  cases he : s.events with
  | nil => simp only [he] at h; exact .inl ⟨rfl, h⟩
  | cons e rest =>
    simp only [he] at h
    cases hh : (s.withEvents rest).hostEvent e with
    | next s' => simp only [hh] at h; exact .inr ⟨e, rest, s', rfl, hh, h⟩
    | fault f => exact nomatch f
    | refused r => simp only [hh] at h; exact absurd h (by simp)

/-- With no event to come, a step is the end of the cycle. -/
theorem step_idle {s : State} (h : s.events = []) : step s = tick exec s := by unfold step cycle; simp only [h]

/-- With an event to come that the port takes, a step is its effect and the end of the cycle. -/
theorem step_event {s s' : State} {e : HostEvent} {rest : List HostEvent} (h : s.events = e :: rest)
    (he : (s.withEvents rest).hostEvent e = .next s') : step s = tick exec s' := by
  unfold step cycle; simp only [h, he]

end Sys2Proof.Machine
end

