-- ==== Sys2Proof/Tests/Slice0.lean ====
section
/-! SUPPORT. The model's own tests: ill-formed words refused, the words of R83 decoded, at most two tests a command (expected
values from 95_test_vectors.md or by hand from the rules), and a witness for each statement that has hypotheses. -/

namespace Sys2Proof.Tests

set_option Elab.async false

open Sys2Proof Sys2Proof.Machine

/-! ## Helpers -/

/-- The reset state with three operands. -/
def withArgs (a b c : Nat) : State := { State.reset with arg := ⟨word a, word b, word c, 0⟩ }

/-- The same with windows A and B loaded. -/
def withWins (a b : List Byte) (x y : Nat) : State := ((withArgs x y 0).writeWin .a a).writeWin .b b

/-- The same with staged bytes. -/
def withStage (bs : List Byte) (x : Nat) : State := { withArgs x 0 0 with stage := bs }

/-- A made symbol with the given side and grid. -/
def madeWith (n : Nat) (g : Grid) (x y : Nat) : State :=
  { withArgs x y 0 with symState := .made, final := true, moduleCount := n, versionEff := 1, grid := g }

/-- The state with one host event to come, while a command has `n` cycles left. -/
def busyWith (n : Nat) (e : HostEvent) : State :=
  { State.reset with running := some ⟨0, n⟩, events := [e] }

/-- The idle state with one host event to come. -/
def idleWith (e : HostEvent) : State := { State.reset with events := [e] }

/-- The state a result gives, if it is a next state. -/
def after : Result → Option State
  | .next t => some t
  | .fault _ => none
  | .refused _ => none

/-- ERR and RES0 to RES3 of a result. -/
def answer (r : Result) : Option (ErrCode × List Nat) :=
  (after r).map (fun t => (t.err, [t.res.w0.toNat, t.res.w1.toNat, t.res.w2.toNat, t.res.w3.toNat]))

/-- Window R of a result. -/
def windowR (r : Result) : Option (List Byte) := (after r).map (fun t => t.r)

/-- A window of a result, of known bytes. -/
def windowOf (w : Win) (r : Result) : Option (List Byte) := (after r).map (fun t => t.rawList w)

/-! ## Well-formed words: each check refuses an ill-formed word (R80, R84) -/

theorem test_reserved_bit_refused : wordWellFormed 0x00000103 = false ∧ decodeWord 0x00000103 = .error .reservedBits := by
  decide
theorem test_high_reserved_bit_refused :
    wordWellFormed 0x80000000 = false ∧ decodeWord 0x80000000 = .error .reservedBits := by decide
theorem test_reserved_opcode_refused : wordWellFormed 0x00000006 = false ∧ decodeWord 0x00000006 = .error .reservedOpcode := by
  decide
theorem test_opcode_ranges_refused :
    ∀ o ∈ [0x06, 0x0F, 0x13, 0x1F, 0x26, 0x2F, 0x33, 0x3F, 0x44, 0x4F, 0x56, 0x7F, 0x80, 0xFF],
      opcodeAssigned o = false ∧ opcodeOf o = none := by decide
theorem test_short_word_refused : decode [0x03, 0x00, 0x00] = .error .shortWord := by decide

/-! ## Decoding: the words of R83, the field OPC in bits 7:0 -/

theorem test_decode_symbol_family :
    decodeWord 0b00000000_00000000_00000000_00000000 = .ok .nop ∧ decodeWord 0b00000000_00000000_00000000_00000001 = .ok .create ∧
    decodeWord 0b00000000_00000000_00000000_00000010 = .ok .addData ∧ decodeWord 0b00000000_00000000_00000000_00000011 = .ok .make ∧
    decodeWord 0b00000000_00000000_00000000_00000100 = .ok .isDark ∧
    decodeWord 0b00000000_00000000_00000000_00000101 = .ok .stageClear := by decide
theorem test_decode_gf_family :
    decodeWord 0b00000000_00000000_00000000_00010000 = .ok .gfExp ∧ decodeWord 0b00000000_00000000_00000000_00010001 = .ok .gfLog ∧
    decodeWord 0b00000000_00000000_00000000_00010010 = .ok .gfMul := by decide
theorem test_decode_polynomial_family :
    decodeWord 0x00000020 = .ok .polyConstruct ∧ decodeWord 0b00000000_00000000_00000000_00100001 = .ok .polyMul ∧
    decodeWord 0x00000022 = .ok .polyMod ∧ decodeWord 0x00000023 = .ok .polyMove ∧ decodeWord 0x00000024 = .ok .rsGen ∧
    decodeWord 0x00000025 = .ok .rsEncode := by decide
theorem test_decode_ec_family :
    decodeWord 0x00000030 = .ok .ecPlan ∧ decodeWord 0b00000000_00000000_00000000_00110001 = .ok .rawModules ∧
    decodeWord 0x00000032 = .ok .ccw := by decide
theorem test_decode_bit_buffer_family :
    decodeWord 0x00000040 = .ok .bbClear ∧ decodeWord 0b00000000_00000000_00000000_01000001 = .ok .bbPut ∧
    decodeWord 0x00000042 = .ok .bbPutbit ∧ decodeWord 0x00000043 = .ok .bbGetbit := by decide
theorem test_decode_render_family :
    decodeWord 0x00000050 = .ok .render ∧ decodeWord 0x00000051 = .ok .penalty ∧
    decodeWord 0b00000000_00000000_00000000_01010010 = .ok .maskEval ∧ decodeWord 0x00000053 = .ok .formatBits ∧
    decodeWord 0x00000054 = .ok .versionBits ∧ decodeWord 0x00000055 = .ok .alignPos := by decide
/-- The bytes on the bus, least significant first (R64). -/
theorem test_decode_bytes : decode [0x43, 0x00, 0x00, 0x00, 0x99] = .ok (.bbGetbit, [0x99]) := by decide
theorem test_table_word : decodeTableWord 32 0x00000025 = some .rsEncode ∧ decodeTableWord 32 0x00000126 = none := by decide

/-! ## GF(256): 95_test_vectors.md 2.1 -/

theorem test_gfExp_negative : answer (exec .gfExp (withArgs 0xFFFFFFFF 0 0)) = some (.ok, [0x8E, 0, 0, 0]) := by decide +kernel
theorem test_gfExp_most_negative : answer (exec .gfExp (withArgs 0x80000000 0 0)) = some (.ok, [0xCC, 0, 0, 0]) := by
  decide +kernel
theorem test_gfLog_53 : answer (exec .gfLog (withArgs 0x53 0 0)) = some (.ok, [206, 0, 0, 0]) := by decide +kernel
theorem test_gfLog_256 : answer (exec .gfLog (withArgs 256 0 0)) = some (.domain, [0, 0, 0, 0]) := by decide +kernel
theorem test_gfMul_53_CA : answer (exec .gfMul (withArgs 0x53 0xCA 0)) = some (.ok, [0x8F, 0, 0, 0]) := by decide +kernel
theorem test_gfMul_not_truncated : answer (exec .gfMul (withArgs 1 0x100 0)) = some (.domain, [0, 0, 0, 0]) := by decide +kernel

/-! ## Polynomials: 95_test_vectors.md 2.2 -/

theorem test_polyConstruct_strips_first :
    windowOf .a (exec .polyConstruct (withWins [0, 0, 3, 0] [] 0 2)) = some [3, 0, 0, 0] := by decide +kernel
theorem test_polyConstruct_too_long :
    answer (exec .polyConstruct (withWins [1] [] 0 256)) = some (.domain, [0, 0, 0, 0]) := by decide +kernel
theorem test_polyMul : windowR (exec .polyMul (withWins [1, 2] [1, 4] 0 0)) = some [1, 6, 8] := by decide +kernel
theorem test_polyMul_zero : windowR (exec .polyMul (withWins [0, 0] [1] 0 0)) = some [] := by decide +kernel
theorem test_polyMod : windowR (exec .polyMod (withWins [1, 0, 0, 0] [1, 3] 0 0)) = some [0x0F] := by decide +kernel
theorem test_polyMod_zero_divisor :
    answer (exec .polyMod (withWins [1, 2] [0, 0] 0 0)) = some (.domain, [0, 0, 0, 0]) := by decide +kernel
theorem test_polyMove_to_b :
    windowOf .b (exec .polyMove { withArgs 1 0 0 with r := [0x0F] }) = some [0x0F] := by decide +kernel
theorem test_polyMove_bad_select : answer (exec .polyMove (withArgs 2 0 0)) = some (.domain, [0, 0, 0, 0]) := by decide +kernel
theorem test_rsGen_7 :
    windowR (exec .rsGen (withArgs 7 0 0)) = some [0x01, 0x7F, 0x7A, 0x9A, 0xA4, 0x0B, 0x44, 0x75] := by decide +kernel
theorem test_rsGen_256 : answer (exec .rsGen (withArgs 256 0 0)) = some (.domain, [0, 0, 0, 0]) := by decide +kernel
theorem test_rsEncode_right_aligned : windowR (exec .rsEncode (withWins [0xD3, 0x01] [] 2 0)) = some [0x00, 0xD2] := by
  decide +kernel
theorem test_rsEncode_hello_world :
    windowR (exec .rsEncode (withWins
      [0x20, 0x5B, 0x0B, 0x78, 0xD1, 0x72, 0xDC, 0x4D, 0x43, 0x40, 0xEC, 0x11, 0xEC, 0x11, 0xEC, 0x11] [] 10 0)) =
      some [0xC4, 0x23, 0x27, 0x77, 0xEB, 0xD7, 0xE7, 0xE2, 0x5D, 0x17] := by decide +kernel

/-! ## EC blocks: 95_test_vectors.md 2.3 -/

theorem test_ecPlan_5Q :
    answer (exec .ecPlan (withArgs 5 2 0)) = some (.ok, [0x000F2102, 0x00102202, 0x0048003E, 0x00101204]) := by decide +kernel
theorem test_ecPlan_40H :
    answer (exec .ecPlan (withArgs 40 3 0)) = some (.ok, [0x000F2D14, 0x00102E3D, 0x097E04FC, 0x00101E51]) := by decide +kernel
theorem test_rawModules_14 : answer (exec .rawModules (withArgs 14 0 0)) = some (.ok, [4651, 581, 3, 0]) := by decide +kernel
theorem test_rawModules_2 : answer (exec .rawModules (withArgs 2 0 0)) = some (.ok, [359, 44, 7, 0]) := by decide +kernel

/-! ## Segments: 95_test_vectors.md 2.4 -/

theorem test_ccw_kanji_27 : answer (exec .ccw (withArgs 8 27 0)) = some (.ok, [12, 0, 0, 0]) := by decide +kernel
theorem test_ccw_bad_mode : answer (exec .ccw (withArgs 3 1 0)) = some (.domain, [0, 0, 0, 0]) := by decide +kernel
/-- "01234567", Numeric. -/
theorem test_addData_numeric :
    answer (exec .addData (withStage [0x30, 0x31, 0x32, 0x33, 0x34, 0x35, 0x36, 0x37] 1)) = some (.ok, [8, 27, 1, 0]) := by
  decide +kernel
/-- 93 5F E4, Kanji: an odd length. -/
theorem test_addData_odd_kanji :
    answer (exec .addData (withStage [0x93, 0x5F, 0xE4] 8)) = some (.illegalChar, [0, 0, 0, 0]) := by decide +kernel
/-- STAGE_CLEAR leaves SEG_CLASS 0x7. -/
theorem test_stageClear :
    (after (exec .stageClear (withStage [0x31, 0x32, 0x61] 0))).map (fun t => (t.stage, t.segClass)) = some ([], 7) := by
  decide +kernel
/-- "HELLO WORLD" in Alphanumeric is the bits of 2.4. -/
theorem test_encode_alnum :
    putFields [] (encFields .alphanumeric [0x48, 0x45, 0x4C, 0x4C, 0x4F]) =
      fieldBits 0b0110000101101111000110011000 28 := by decide +kernel

/-! ## Bit buffer: 95_test_vectors.md 2.5 -/

theorem test_bbPut_ignores_high_bits :
    (after (exec .bbPut (withArgs 0xFFFFFFFF 4 0))).map (fun t => (bufByte t.bb 0, t.bbLen)) = some (0xF0, 4) := by
  decide +kernel
theorem test_bbPut_33 : answer (exec .bbPut (withArgs 0 33 0)) = some (.domain, [0, 0, 0, 0]) := by decide +kernel
theorem test_bbPutbit_nonzero :
    (after (exec .bbPutbit (withArgs 0x80000000 0 0))).map (fun t => (bufByte t.bb 0, t.bbLen)) = some (0x80, 1) := by
  decide +kernel
theorem test_bbGetbit :
    answer (exec .bbGetbit { withArgs 5 0 0 with bb := put [] 0x060F 16 }) = some (.ok, [1, 0, 0, 0]) := by decide +kernel
theorem test_bbGetbit_past_end :
    answer (exec .bbGetbit { withArgs 16 0 0 with bb := put [] 0x060F 16 }) = some (.outOfBounds, [0, 0, 0, 0]) := by
  decide +kernel
theorem test_bbClear :
    (after (exec .bbClear { withArgs 0 0 0 with bb := put [] 0x060F 16 })).map (fun t => (bufByte t.bb 0, t.bbLen)) =
      some (0, 0) := by decide +kernel

/-! ## Patterns and masks: 95_test_vectors.md 2.6, 2.7 -/

theorem test_formatBits_M7 : answer (exec .formatBits (withArgs 1 7 0)) = some (.ok, [0x4AA0, 0, 0, 0]) := by decide +kernel
theorem test_formatBits_L0 : answer (exec .formatBits (withArgs 0 0 0)) = some (.ok, [0x77C4, 0, 0, 0]) := by decide +kernel
theorem test_versionBits_7 : answer (exec .versionBits (withArgs 7 0 0)) = some (.ok, [0x07C94, 0, 0, 0]) := by decide +kernel
theorem test_versionBits_40 : answer (exec .versionBits (withArgs 40 0 0)) = some (.ok, [0x28C69, 0, 0, 0]) := by decide +kernel
theorem test_alignPos_40 :
    answer (exec .alignPos (withArgs 40 0 0)) = some (.ok, [7, 0x563A1E06, 0x00AA8E72, 0]) := by decide +kernel
theorem test_alignPos_1 : answer (exec .alignPos (withArgs 1 0 0)) = some (.ok, [0, 0, 0, 0]) := by decide +kernel
/-- Row 5 of mask 7: 011100. -/
theorem test_maskEval_7 :
    (List.range 6).map (fun j => answer (exec .maskEval (withArgs 7 5 j))) =
      [0, 1, 1, 1, 0, 0].map (fun b => some (.ok, [b, 0, 0, 0])) := by decide +kernel
/-- Row 4 of mask 6: 101101. -/
theorem test_maskEval_6 :
    (List.range 6).map (fun j => answer (exec .maskEval (withArgs 6 4 j))) =
      [1, 0, 1, 1, 0, 1].map (fun b => some (.ok, [b, 0, 0, 0])) := by decide +kernel

/-! ## The symbol -/

/-- A 7 by 7 light grid, by hand from R240 to R243: 25 inner cells of 3 + 3, 36 blocks of 3, no run, no dark cell. -/
theorem test_penalty_light :
    answer (exec .penalty (madeWith 7 (List.replicate 7 (List.replicate 7 .light)) 0 0)) = some (.ok, [150, 108, 0, 0]) := by
  decide +kernel
/-- Row 0 is the finder-like run, the rest light; by hand from R240 to R243: 20 cells of 6 and 4 of 4, 30 blocks of 3, one run, 5 dark
cells. -/
theorem test_penalty_run :
    answer (exec .penalty (madeWith 7 (finderRun :: List.replicate 6 (List.replicate 7 .light)) 0 0)) =
      some (.ok, [136, 90, 40, 5]) := by decide +kernel
theorem test_isDark :
    answer (exec .isDark (madeWith 2 [[.light, .dark], [.light, .light]] 0 1)) = some (.ok, [1, 0, 0, 0]) := by decide +kernel
theorem test_isDark_outside :
    answer (exec .isDark (madeWith 2 [[.light, .dark], [.light, .light]] 2 0)) = some (.outOfBounds, [0, 0, 0, 0]) := by
  decide +kernel
theorem test_create_41 : answer (exec .create (withArgs 41 0 0)) = some (.domain, [0, 0, 0, 0]) := by decide +kernel
theorem test_create_bad_level : answer (exec .create (withArgs 1 4 0)) = some (.invalidLevel, [0, 0, 0, 0]) := by decide +kernel
theorem test_nop : answer (exec .nop (withArgs 1 2 3)) = some (.ok, [0, 0, 0, 0]) := by decide +kernel
/-- The codewords of "Hello world" at level M (95_test_vectors.md 2.9, S1). -/
theorem test_make_codewords :
    (after (exec .make
      { State.reset with
        level := .medium, symState := .pending
        segs := [⟨.byte, [0x48, 0x65, 0x6C, 0x6C, 0x6F, 0x20, 0x77, 0x6F, 0x72, 0x6C, 0x64]⟩] })).map
      (fun t => (t.versionEff, t.dataBits, t.cw)) =
      some (1, 100,
        [0x40, 0xB4, 0x86, 0x56, 0xC6, 0xC6, 0xF2, 0x07, 0x76, 0xF7, 0x26, 0xC6, 0x40, 0xEC, 0x11, 0xEC, 0xAE, 0xEA, 0x0F,
         0x9A, 0x14, 0x19, 0xE6, 0x9E, 0x64, 0x21]) := by decide +kernel
/-- "12a" and "abcdefg" do not fit 1-H (program P4, line 8). -/
theorem test_make_capacity :
    answer (exec .make
      { State.reset with
        level := .high, versionReq := 1, symState := .pending
        segs := [⟨.byte, [0x31, 0x32, 0x61]⟩, ⟨.byte, [0x61, 0x62, 0x63, 0x64, 0x65, 0x66, 0x67]⟩] }) =
      some (.capacity, [0, 0, 0, 0]) := by decide +kernel
theorem test_render_outside_made : answer (exec .render (withArgs 9 0 0)) = some (.state, [0, 0, 0, 0]) := by decide +kernel

/-! ## The host port: P5, P6, R63 -/

theorem test_busy_write_sets_cmdOvf :
    (after (step (busyWith 2 (.write .word 0x010 5)))).map (fun t => (t.cmdOvf, t.arg.w0)) = some (true, 0) := by
  decide +kernel
theorem test_soft_reset_ignores_bit_1 :
    (after (step { idleWith (.write .word 0x004 3) with segs := [⟨.byte, [1]⟩], done := true })).map
      (fun t => (t.irqEn, t.segs, t.done)) = some (false, [], false) := by decide +kernel
theorem test_status_write_one_clears :
    (after (step { idleWith (.write .word 0x008 2) with done := true, symState := .made, final := true })).map
      (fun t => t.statusWord) = some 0x00000018 := by decide +kernel
theorem test_id_reads : (after (step (idleWith (.read .word 0x000)))).map (fun t => t.rdata) = some 0x51524337 := by
  decide +kernel
theorem test_halfword_refused : after (step (idleWith (.read .half 0x000))) = none := by decide +kernel
/-- The word 0x00000103 is no MAKE (program P4, line 11). -/
theorem test_reserved_word_is_illegal :
    answer (step (State.reset.withFetchWord 32 0x00000103)) = some (.illegalCmd, [0, 0, 0, 0]) := by decide +kernel
theorem test_fetch_word_runs :
    (after (step ({ withArgs 7 0 0 with events := [] }.withFetchWord 32 0x00000010))).map (fun t => (t.res.w0, t.statusWord)) =
      some (0x80, 0x00000002) := by decide +kernel

/-! ## Witnesses: for each statement with hypotheses, a state and operands that meet them, clause by clause -/

/-- Lists of every length. -/
theorem exists_length {α : Type} (x : α) (n : Nat) : ∃ l : List α, l.length = n := ⟨List.replicate n x, List.length_replicate⟩

/-- What one Byte segment asks of a version (R181, R182). -/
theorem fits_bytes (bs : List Byte) (v : Nat) (lvl : Level) :
    fits [⟨.byte, bs⟩] v lvl =
      (match plan? v lvl with | some p => decide (4 + ccw .byte v + 8 * bs.length ≤ 8 * dataTotal p) | none => false) := by
  cases h : plan? v lvl <;> simp [fits, h, packedBits, segCost, segBits, charCount]

/-- An idle state about to take the command word `w`. -/
def issuing (w : Word) : State := { State.reset with events := [.write .word 0x00C w] }

theorem issuing_issues (w : Word) : (issuing w).issues w [] := ⟨rfl, rfl, rfl⟩

/-- The symbol MAKE finds right after reset. -/
theorem makeSymbol_reset : ∃ x, makeSymbol 0 .low [] = .ok x := ⟨_, rfl⟩

/-- A state in EMPTY with no symbol meets the invariant when its host port has only idle history. -/
theorem issuing_inv (w : Word) : (issuing w).Inv where
  cellsWf := rfl
  cellsInWindows := fun _ h => absurd h List.not_mem_nil
  aLen := Nat.zero_le _
  bLen := Nat.zero_le _
  rLen := Nat.zero_le _
  bbLen := Nat.zero_le _
  stageLen := Nat.zero_le _
  stageOvf := fun h => absurd h Bool.false_ne_true
  segCount := Nat.zero_le _
  segBytes := Nat.zero_le _
  segsValid := fun _ h => absurd h List.not_mem_nil
  versionReq := Nat.zero_le _
  empty := fun _ => rfl
  notMade := fun _ => ⟨rfl, rfl, rfl, rfl, rfl, rfl, rfl, rfl⟩
  made := fun h => nomatch h
  running := fun _ h => nomatch h

theorem witness_StepKeepsInvariant : ∃ s t : State, s.Inv ∧ step s = .next t := ⟨issuing 0, _, issuing_inv 0, rfl⟩

theorem witness_WordIsExecutedOrEndsIllegal :
    ((issuing 0x00000100).issues 0x00000100 [] ∧ (0x00000100 : Word).toNat / 256 ≠ 0) ∧
    ((issuing 0x00000006).issues 0x00000006 [] ∧ ∀ i : Instr, (0x00000006 : Word).toNat % 256 ≠ opcode i) ∧
    ((issuing 0x00000055).issues 0x00000055 [] ∧ (0x00000055 : Word).toNat / 256 = 0 ∧
      (0x00000055 : Word).toNat % 256 = opcode .alignPos) :=
  ⟨⟨issuing_issues _, by decide⟩, ⟨issuing_issues _, by intro i; cases i <;> decide⟩, issuing_issues _, by decide, by decide⟩

theorem witness_StepRunsDecodedCommand : (issuing 0x00000003).issues 0x00000003 [] ∧ decodeWord 0x00000003 = .ok .make :=
  ⟨issuing_issues _, by decide⟩

/-- LATENCY 3, the boundary LATENCY 1, and two words that name no command. -/
theorem witness_CommandRunsAfterItsLatency :
    (∀ w : Word,
      (let s := { issuing w with latencies := [2] }
       s.running = none ∧ s.events = [.write .word 0x00C w] ∧ s.latencies.headD 0 = 2 ∧ 1 ≤ 2 ∧ 2 ≤ 2) ∧
      (let s := issuing w
       s.running = none ∧ s.events = [.write .word 0x00C w] ∧ s.latencies.headD 0 = 0)) ∧
    decodeWord 0x00000050 = .ok .render ∧ (∀ i : Instr, (0x00000006 : Word).toNat % 256 ≠ opcode i) ∧
    (0x80000003 : Word).toNat / 256 ≠ 0 :=
  ⟨fun _ => ⟨⟨rfl, rfl, rfl, by decide⟩, rfl, rfl, rfl⟩, by decide, by intro i; cases i <;> decide, by decide⟩

/-- The word 0x00000006 with LATENCY 2: busy for one cycle, then ILLEGAL_CMD (R80, R283). -/
theorem test_illegal_word_with_latency :
    answer (Host.Core.run Sys2Proof.core 2 { issuing 0x00000006 with latencies := [1] }) = some (.illegalCmd, [0, 0, 0, 0]) ∧
    (after (Host.Core.run Sys2Proof.core 1 { issuing 0x00000006 with latencies := [1] })).map (fun t => t.statusWord) =
      some 0x00000001 := by decide +kernel

/-- A command that ends well, and one that ends in error. -/
theorem witness_EveryCommandCompletesAndErrorsChangeNothing :
    (∃ t, exec .nop State.reset = .next t ∧ t.err = .ok) ∧ ∃ t, exec .create (withArgs 41 0 0) = .next t ∧ t.err ≠ .ok :=
  ⟨⟨_, rfl, rfl⟩, _, rfl, by decide⟩

theorem witness_NoCommandWritesOperandsOrHostState :
    (∃ t, exec .create (withArgs 40 3 0) = .next t ∧ t.err = .ok) ∧ ∃ t, exec .nop State.reset = .next t :=
  ⟨⟨_, rfl, rfl⟩, _, rfl⟩

theorem witness_SymbolStateTransitions :
    (∃ t, exec .create (withArgs 41 0 0) = .next t ∧ t.err ≠ .ok) ∧
    (∃ t, State.reset.symState ≠ .made ∧ exec .render State.reset = .next t) ∧
    (∃ t, State.reset.symState ≠ .made ∧ exec .penalty State.reset = .next t) ∧
    (∃ t, State.reset.symState ≠ .made ∧ exec .isDark State.reset = .next t) ∧
    (∃ t, exec .create (withArgs 40 3 0) = .next t ∧ t.err = .ok) ∧
    (∃ t, exec .addData (withStage [0x31] 1) = .next t ∧ t.err = .ok) ∧
    (∃ t, exec .make State.reset = .next t ∧ t.err = .ok) ∧
    (∃ t, exec .render (madeWith 21 [] 7 1) = .next t ∧ t.err = .ok) ∧
    (∃ t, exec .isDark (madeWith 21 [] 20 20) = .next t ∧ t.err = .ok) :=
  ⟨⟨_, rfl, by decide⟩, ⟨_, by decide, rfl⟩, ⟨_, by decide, rfl⟩, ⟨_, by decide, rfl⟩, ⟨_, rfl, rfl⟩, ⟨_, rfl, rfl⟩,
    ⟨_, rfl, rfl⟩, ⟨_, rfl, rfl⟩, ⟨_, rfl, rfl⟩⟩

/-- EMPTY, and MADE by the symbol of the reset state: where MAKE cannot fail. -/
theorem witness_SymbolStateTransitions_make :
    ((issuing 0).Inv ∧ (issuing 0).symState ≠ .pending) ∧ ∃ s : State, s.Inv ∧ s.symState = .made := by
  refine ⟨⟨issuing_inv 0, by decide⟩, ?_⟩
  obtain ⟨x, hx⟩ := makeSymbol_reset
  refine ⟨State.reset.commit x, ?_, rfl⟩
  exact
    { cellsWf := rfl
      cellsInWindows := fun _ h => absurd h List.not_mem_nil
      aLen := Nat.zero_le _
      bLen := Nat.zero_le _
      rLen := Nat.zero_le _
      bbLen := Nat.zero_le _
      stageLen := Nat.zero_le _
      stageOvf := fun h => absurd h Bool.false_ne_true
      segCount := Nat.zero_le _
      segBytes := Nat.zero_le _
      segsValid := fun _ h => absurd h List.not_mem_nil
      versionReq := Nat.zero_le _
      empty := fun h => nomatch h
      notMade := fun h => absurd rfl h
      made := fun _ => ⟨x, hx, rfl, rfl, rfl, rfl, rfl, rfl, rfl, fun _ => rfl⟩
      running := fun _ h => nomatch h }

theorem witness_MakeIsRepeatableAndUndoesRender :
    ∃ t u, exec .make State.reset = .next t ∧ t.err = .ok ∧ exec .render t = .next u := ⟨_, _, rfl, rfl, rfl⟩

theorem witness_GfLogInvertsExp :
    (let s := withArgs 1 0 0; 1 ≤ s.arg.w0.toNat ∧ s.arg.w0.toNat ≤ 255) ∧
    (let s := withArgs 255 0 0; 1 ≤ s.arg.w0.toNat ∧ s.arg.w0.toNat ≤ 255) ∧
    (withArgs 0 0 0).arg.w0.toNat < 1 ∧ 255 < (withArgs 256 0 0).arg.w0.toNat := by decide

theorem witness_GfMulAddsExponents :
    255 < (withArgs 256 0 0).arg.w0.toNat ∧ 255 < (withArgs 0 256 0).arg.w1.toNat ∧
    (let s := withArgs 0 255 0; s.arg.w0.toNat ≤ 255 ∧ s.arg.w1.toNat ≤ 255 ∧ s.arg.w0 = 0) ∧
    (let s := withArgs 0x8E 0x8E 0
     s.arg.w0 = (expTable.getD 254 0).setWidth 32 ∧ s.arg.w1 = (expTable.getD 254 0).setWidth 32) := by decide +kernel

theorem witness_ExpLogTablesAreConstructed : 7 < 8 ∧ (8 ≤ 8 ∧ 8 < 256) ∧ (8 ≤ 255 ∧ 255 < 256) ∧ 254 < 255 := by decide

theorem witness_GfProductLaws : (1 : Byte) ≠ 0 ∧ (0xFF : Byte) ≠ 0 := by decide

theorem witness_PolyConstructStripsAndShifts :
    ((withArgs 2 0 0).cells.wf = true ∧ 1 < (withArgs 2 0 0).arg.w0.toNat) ∧
    (let s := withWins [1] [0, 1] 0 256
     s.cells.wf = true ∧ Win.ofSelect? s.arg.w0.toNat = some .a ∧ 256 < (strip (s.rawList .a)).length + s.arg.w1.toNat) ∧
    (let s := withWins [1] [0, 1] 1 255
     s.cells.wf = true ∧ Win.ofSelect? s.arg.w0.toNat = some .b ∧ (strip (s.rawList .b)).length + s.arg.w1.toNat ≤ 256) := by
  decide +kernel

theorem witness_PolyMoveCopiesResult :
    ((withArgs 2 0 0).cells.wf = true ∧ 1 < (withArgs 2 0 0).arg.w0.toNat) ∧
    ((withArgs 0 0 0).cells.wf = true ∧ Win.ofSelect? (withArgs 0 0 0).arg.w0.toNat = some .a) ∧
    ((withArgs 1 0 0).cells.wf = true ∧ Win.ofSelect? (withArgs 1 0 0).arg.w0.toNat = some .b) := by decide

/-- Windows of 256 and 2 coefficients, and of 256 and 1. -/
theorem witness_PolyMulWritesProduct :
    (∃ s : State, 256 < (pmul (s.rawList .a) (s.rawList .b)).length) ∧
    ∃ s : State, (s.rawList .a).length = 256 ∧ (pmul (s.rawList .a) (s.rawList .b)).length ≤ 256 := by
  have hb : ∀ p q : List Byte, (withWins p q 0 0).rawList .b = q := fun p q =>
    State.rawList_writeWin _ (State.writeWin_wf _ rfl _ _) _ _
  have ha : ∀ p q : List Byte, p.length ≤ 256 → q.length ≤ 256 → (withWins p q 0 0).rawList .a = p := fun p q hp hq => by
    rw [withWins, State.rawList_writeWin_other _ (State.writeWin_wf _ rfl _ _) (by decide)
      (by rw [State.winLen_writeWin]; exact hp) _ hq]
    exact State.rawList_writeWin _ rfl _ _
  have hm : gmul 1 1 ≠ 0 := by decide
  obtain ⟨as, h⟩ := exists_length (0 : Byte) 255
  refine ⟨⟨withWins (1 :: as) [1, 0] 0 0, ?_⟩, withWins (1 :: as) [1] 0 0, ?_, ?_⟩
  · rw [ha _ _ (by simp [h]) (by decide), hb, pmul_length as [0] (by decide) (by decide) hm, h]; decide
  · rw [ha _ _ (by simp [h]) (by decide), List.length_cons, h]
  · rw [ha _ _ (by simp [h]) (by decide), hb, pmul_length as [] (by decide) (by decide) hm, h]; decide

theorem witness_ProductCoefficientsAreXorSums :
    strip [0, 0] = [] ∧ strip [] = [] ∧ strip [1, 2] ≠ [] ∧ strip [0, 4] ≠ [] ∧ 1 < (pmul [1, 2] [0, 4]).length := by
  decide +kernel

theorem witness_PolyModWritesRemainder :
    strip ((withWins [1] [0, 0] 0 0).rawList .b) = [] ∧ strip ((withWins [1] [0, 5] 0 0).rawList .b) ≠ [] := by decide +kernel

theorem witness_RemainderIsCongruentAndShort : pmod? [1, 0, 0, 0] [1, 3] = some [0x0F] := by decide +kernel

theorem witness_RsGenWritesGenerator :
    255 < (withArgs 256 0 0).arg.w0.toNat ∧ (withArgs 255 0 0).arg.w0.toNat ≤ 255 ∧ (withArgs 0 0 0).arg.w0.toNat ≤ 255 := by
  decide

/-- The last root of `gen(2)` = 01 03 02. -/
theorem witness_GeneratorHasConsecutiveRoots : 1 < 2 ∧ gen 2 = [1, 3, 2] ∧ polyEval (gen 2) (gexp 1) = 0 := by decide +kernel

theorem witness_RsEncodeWritesExactlyLBytes :
    255 < (withWins [1] [] 256 0).arg.w0.toNat ∧ (withWins [1] [] 255 0).arg.w0.toNat ≤ 255 := by decide +kernel

theorem witness_DataWithEcCodewordsIsCodeword :
    1 < 2 ∧ rsEc [0xD3, 0x01] 2 = [0x00, 0xD2] ∧ polyEval [0xD3, 0x01, 0x00, 0xD2] (gexp 1) = 0 := by decide +kernel

theorem witness_EcPlanReportsPlan :
    (withArgs 0 0 0).arg.w0.toNat < 1 ∧ 40 < (withArgs 41 0 0).arg.w0.toNat ∧ 3 < (withArgs 1 4 0).arg.w1.toNat ∧
    (let s := withArgs 1 0 0; 1 ≤ s.arg.w0.toNat ∧ s.arg.w0.toNat ≤ 40 ∧ s.arg.w1.toNat = Level.low.code) ∧
    (let s := withArgs 40 3 0; 1 ≤ s.arg.w0.toNat ∧ s.arg.w0.toNat ≤ 40 ∧ s.arg.w1.toNat = Level.high.code) ∧
    ecRow? 1 .low = some ⟨⟨1, 26, 19⟩, none⟩ ∧ ecRow? 40 .high = some ⟨⟨20, 45, 15⟩, some ⟨61, 46, 16⟩⟩ := by decide +kernel

theorem witness_RawModulesReportsCapacity :
    (withArgs 0 0 0).arg.w0.toNat < 1 ∧ 40 < (withArgs 41 0 0).arg.w0.toNat ∧
    (let s := withArgs 1 0 0; 1 ≤ s.arg.w0.toNat ∧ s.arg.w0.toNat ≤ 40) ∧
    (let s := withArgs 40 0 0; 1 ≤ s.arg.w0.toNat ∧ s.arg.w0.toNat ≤ 40) := by decide

/-- Both ends of the table, a higher level and a higher version. -/
theorem witness_CapacityTableProperties :
    (1 ≤ 1 ∧ 1 ≤ 40) ∧ (1 ≤ 40 ∧ 40 ≤ 40) ∧ Level.low.code < Level.high.code ∧ (plan? 40 .high).isSome ∧
    (plan? 2 .low).isSome := by decide +kernel

theorem witness_CcwGivesCountWidth :
    (withArgs 3 1 0).arg.w0.toNat ∉ [1, 2, 4, 8] ∧ (withArgs 1 0 0).arg.w1.toNat < 1 ∧ 40 < (withArgs 1 41 0).arg.w1.toNat ∧
    (∀ v ∈ [1, 9], (withArgs 8 v 0).arg.w0.toNat = 8 ∧ 1 ≤ (withArgs 8 v 0).arg.w1.toNat ∧ (withArgs 8 v 0).arg.w1.toNat ≤ 9) ∧
    (∀ v ∈ [10, 26],
      (withArgs 8 v 0).arg.w0.toNat = 8 ∧ 10 ≤ (withArgs 8 v 0).arg.w1.toNat ∧ (withArgs 8 v 0).arg.w1.toNat ≤ 26) ∧
    (∀ v ∈ [27, 40],
      (withArgs 8 v 0).arg.w0.toNat = 8 ∧ 27 ≤ (withArgs 8 v 0).arg.w1.toNat ∧ (withArgs 8 v 0).arg.w1.toNat ≤ 40) := by decide

theorem witness_AddDataAppendsSegmentOrReportsFirstError :
    (withArgs 0 0 0).arg.w0.toNat ∉ [1, 2, 4, 8] ∧ (withArgs 4 0 0).arg.w0.toNat = Mode.byte.code ∧
    { withArgs 4 0 0 with stageOvf := true }.stageOvf = true ∧
    (∃ segs, { withArgs 4 0 0 with segs := segs }.segCount = 2048) ∧
    (∃ bs, bs.length = 8192 ∧ 8192 < { withStage [1] 4 with segs := [⟨.byte, bs⟩] }.segBytes + (withStage [1] 4).stageLen) ∧
    (∃ bs, bs.length = 8191 ∧ { withStage [1] 4 with segs := [⟨.byte, bs⟩] }.segBytes + (withStage [1] 4).stageLen ≤ 8192) ∧
    ((withStage [1] 4).stageOvf = false ∧ (withStage [1] 4).segCount ≠ 2048 ∧ validIn .byte (withStage [1] 4).stage = true) ∧
    (let s := withStage [0x61] 1
     s.arg.w0.toNat = Mode.numeric.code ∧ s.stageOvf = false ∧ s.segCount ≠ 2048 ∧ s.segBytes + s.stageLen ≤ 8192 ∧
       validIn .numeric s.stage = false) := by
  refine ⟨by decide, rfl, rfl, ⟨List.replicate 2048 ⟨.byte, []⟩, List.length_replicate⟩, ?_, ?_, by decide, by decide⟩
  · obtain ⟨bs, h⟩ := exists_length (0 : Byte) 8192
    exact ⟨bs, h, by simp [State.segBytes, segBytesOf, State.stageLen, withStage, h]⟩
  · obtain ⟨bs, h⟩ := exists_length (0 : Byte) 8191
    exact ⟨bs, h, by simp [State.segBytes, segBytesOf, State.stageLen, withStage, h]⟩

/-- Both ends of both Kanji ranges, and valid bytes of the other modes with a short last group. -/
theorem witness_EncodedFieldsFitTheirWidth :
    validIn .kanji [0x81, 0x40, 0x9F, 0xFC, 0xE0, 0x40, 0xEB, 0xBF] = true ∧ (8191, 13) ∈ encFields .kanji [0xEB, 0xBF] ∧
    validIn .numeric [0x39, 0x39, 0x39, 0x30] = true ∧ (999, 10) ∈ encFields .numeric [0x39, 0x39, 0x39] ∧
    validIn .alphanumeric [0x3A, 0x3A, 0x20] = true ∧ (2024, 11) ∈ encFields .alphanumeric [0x3A, 0x3A] ∧
    validIn .byte [0xFF] = true ∧ 0 < [0x81, 0x40].length / 2 := by decide +kernel

theorem witness_CountsFitWhereSegmentsFit :
    fits [⟨.byte, [0x61]⟩] 1 .low = true ∧ (⟨.byte, [0x61]⟩ : Segment) ∈ [(⟨.byte, [0x61]⟩ : Segment)] := by decide +kernel

theorem witness_BbPutAppendsLowBits :
    32 < (withArgs 0 33 0).arg.w1.toNat ∧ (withArgs 0 32 0).arg.w1.toNat ≤ 32 ∧
    (∃ bb, 8192 < { withArgs 0 32 0 with bb := bb }.bbLen + (withArgs 0 32 0).arg.w1.toNat) ∧
    (∃ bb, bb.length = 8160 ∧ { withArgs 0 32 0 with bb := bb }.bbLen + (withArgs 0 32 0).arg.w1.toNat ≤ 8192) := by
  refine ⟨by decide, by decide, ?_, ?_⟩
  · obtain ⟨bb, h⟩ := exists_length false 8161
    exact ⟨bb, by simp [State.bbLen, withArgs, word, h]⟩
  · obtain ⟨bb, h⟩ := exists_length false 8160
    exact ⟨bb, h, by simp [State.bbLen, withArgs, word, h]⟩

theorem witness_BbPutbitSetsOneBitOfItsByte :
    (∃ bb, 8192 < { withArgs 1 0 0 with bb := bb }.bbLen + 1) ∧
    ∃ bb, bb.length = 8191 ∧ { withArgs 1 0 0 with bb := bb }.bbLen + 1 ≤ 8192 := by
  constructor
  · obtain ⟨bb, h⟩ := exists_length false 8192
    exact ⟨bb, by simp [State.bbLen, h]⟩
  · obtain ⟨bb, h⟩ := exists_length false 8191
    exact ⟨bb, h, by simp [State.bbLen, h]⟩

theorem witness_BbGetbitReadsWindowBit :
    (let s := { withArgs 3 0 0 with bb := [true, false, true] }; s.bbLen ≤ s.arg.w0.toNat) ∧
    (let s := { withArgs 2 0 0 with bb := [true, false, true] }; s.arg.w0.toNat < s.bbLen) := by decide

/-- 1274 bytes fit no version at level H (95_test_vectors.md 1.8). -/
theorem select_none_1274 : selectVersion? [⟨.byte, List.replicate 1274 0⟩] .high = none := by
  rw [selectVersion?, List.find?_eq_none]
  intro v hv
  rw [fits_bytes, List.length_replicate]
  revert v
  decide +kernel

theorem witness_SelectVersionIsFirstThatFits :
    selectVersion? [] .low = some 1 ∧ selectVersion? [⟨.byte, List.replicate 1274 0⟩] .high = none :=
  ⟨rfl, select_none_1274⟩

theorem witness_DataStreamIsBufferZerosAndPads :
    [true].length ≤ 8 * 1 ∧ 7 < 8 * 1 ∧ (List.replicate 8 true).length ≤ 8 * 1 := by decide

theorem witness_InterleavePlacesEachByte :
    (∀ b ∈ ([[1], [2, 3]] : List (List Byte)), b.length ≤ 2) ∧ ([[1], [2, 3]] : List (List Byte))[1]? = some [2, 3] ∧
    1 < ([2, 3] : List Byte).length := by decide

theorem witness_AssemblyFillsSymbol : ∃ cw db, assemble [] 1 .low = .ok (cw, db) := ⟨_, _, rfl⟩

theorem witness_FormatAndVersionWordsAreBch :
    3 < (withArgs 4 0 0).arg.w0.toNat ∧ 7 < (withArgs 0 8 0).arg.w1.toNat ∧
    ((withArgs 3 7 0).arg.w0.toNat ≤ 3 ∧ (withArgs 3 7 0).arg.w1.toNat ≤ 7) ∧
    (withArgs 6 0 0).arg.w0.toNat < 7 ∧ 40 < (withArgs 41 0 0).arg.w0.toNat ∧
    (∀ v ∈ [7, 40], 7 ≤ (withArgs v 0 0).arg.w0.toNat ∧ (withArgs v 0 0).arg.w0.toNat ≤ 40) := by decide

/-- The product over GF(2), by hand: (x + 1)(x + 1) = x^2 + 1, and the word of version 7 (R209's check value 0x07C94). -/
theorem test_carrylessMul : carrylessMul 3 3 = 5 ∧ ∃ q < 64, carrylessMul q 0x1F25 = 0x07C94 := by decide +kernel

theorem witness_AlignPosListsCoordinates :
    (withArgs 0 0 0).arg.w0.toNat < 1 ∧ 40 < (withArgs 41 0 0).arg.w0.toNat ∧
    (∀ v ∈ [1, 40], 1 ≤ (withArgs v 0 0).arg.w0.toNat ∧ (withArgs v 0 0).arg.w0.toNat ≤ 40) := by decide

/-- Version 2 has one alignment pattern; in version 7 one stands on the timing line. -/
theorem witness_FormatAndVersionCellsCarryTheirWords :
    (1 ≤ 1 ∧ 1 ≤ 40) ∧ (1 ≤ 40 ∧ 40 ≤ 40) ∧ 7 ≤ 7 ∧ 14 < 15 ∧ 17 < 18 ∧ (8 ≤ 12 ∧ 12 ≤ 4 * 1 + 17 - 9) ∧
    (18 ∈ alignCoords 2 ∧ ¬ (18 = 6 ∧ (18 = 6 ∨ 18 = 4 * 2 + 17 - 7)) ∧ ¬ (18 = 4 * 2 + 17 - 7 ∧ 18 = 6)) ∧
    (6 ∈ alignCoords 7 ∧ 22 ∈ alignCoords 7 ∧ ¬ (6 = 6 ∧ (22 = 6 ∨ 22 = 4 * 7 + 17 - 7)) ∧ ¬ (6 = 4 * 7 + 17 - 7 ∧ 22 = 6)) := by
  decide +kernel

/-- Its clauses at two cells of version 1, level M, mask 7, by hand from R207 and R208: bit 0 of 0x4AA0, the dark module. -/
theorem test_format_cells :
    (structural 1 .medium 7 false).cell 0 8 = .light ∧ (structural 1 .medium 7 false).cell 13 8 = .dark ∧
    (structural 1 .medium 7 true).cell 13 8 = .light ∧ (structural 1 .medium 7 false).cell 8 15 = .dark := by decide +kernel

theorem witness_UnsetCellsMatchCapacity : (1 ≤ 1 ∧ 1 ≤ 40) ∧ (1 ≤ 40 ∧ 40 ≤ 40) := by decide

/-- The first cell of the traversal is the first left unset; the last of the 208 is the last of 26 codewords. -/
theorem witness_RenderSetsEveryCellAndKeepsPatterns :
    (1 ≤ 1 ∧ 1 ≤ 40) ∧ 20 < sideOf 1 ∧ (structural 1 .low 0 false).cell 20 20 = .unset ∧
    (structural 1 .low 0 false).cell 13 8 = .dark ∧
    (let l := (zigzag (sideOf 1)).filter (fun p => (structural 1 .low 0 false).cell p.1 p.2 == .unset)
     l[0]? = some (20, 20) ∧ l[7]? = some (17, 19) ∧ l.length = 208) := by decide +kernel

/-- The first codeword of a render lies in the first eight cells: bit 7 of 0x40 is 0 and mask 0 inverts (20, 20). -/
theorem test_render_first_bits :
    (render 1 .low [0x40] 0 false).cell 20 20 = .dark ∧ (render 1 .low [0x40] 0 false).cell 20 19 = .dark ∧
    (render 1 .low [0x40] 0 false).cell 19 20 = .light := by decide +kernel

theorem witness_RenderRedrawsMadeSymbol :
    (withArgs 0 0 0).symState ≠ .made ∧
    ((madeWith 21 [] 8 0).symState = .made ∧ 7 < (madeWith 21 [] 8 0).arg.w0.toNat) ∧
    ((madeWith 21 [] 7 2).symState = .made ∧ 1 < (madeWith 21 [] 7 2).arg.w1.toNat) ∧
    ((madeWith 21 [] 7 1).symState = .made ∧ (madeWith 21 [] 7 1).arg.w0.toNat = (7 : Fin 8).val ∧
      (madeWith 21 [] 7 1).arg.w1.toNat ≤ 1) := by decide

theorem witness_PenaltyReportsScore : (withArgs 0 0 0).symState ≠ .made ∧ (madeWith 21 [] 0 0).symState = .made := by decide

theorem witness_MaskEvalGivesFormula :
    7 < (withArgs 8 0 0).arg.w0.toNat ∧ 255 < (withArgs 0 256 0).arg.w1.toNat ∧ 255 < (withArgs 0 0 256).arg.w2.toNat ∧
    (∀ m ∈ List.range 8, (withArgs m 255 255).arg.w0.toNat = m ∧ (withArgs m 255 255).arg.w1.toNat ≤ 255 ∧
      (withArgs m 255 255).arg.w2.toNat ≤ 255) := by decide

/-- A tie: the lower index. -/
theorem witness_BestMaskIsLowestIndexOfLeastQ : bestMask (maskIndices.map (fun m => (m, m.val % 2))) = 0 := by decide +kernel

theorem witness_CreateStartsNewSymbol :
    40 < (withArgs 41 0 0).arg.w0.toNat ∧ ((withArgs 40 4 0).arg.w0.toNat ≤ 40 ∧ 3 < (withArgs 40 4 0).arg.w1.toNat) ∧
    ((withArgs 40 3 0).arg.w0.toNat ≤ 40 ∧ (withArgs 40 3 0).arg.w1.toNat = Level.high.code) := by decide

/-- Level L: 18 bytes exceed version 1, 17 fit it. -/
theorem witness_MakeBuildsSymbolOrReportsCapacity :
    (let s := { State.reset with versionReq := 1, segs := [⟨.byte, List.replicate 18 0⟩] }
     s.versionReq ≤ 40 ∧ s.versionReq ≠ 0 ∧ fits s.segs s.versionReq s.level = false) ∧
    (let s := { State.reset with level := .high, segs := [⟨.byte, List.replicate 1274 0⟩] }
     s.versionReq ≤ 40 ∧ s.versionReq = 0 ∧ selectVersion? s.segs s.level = none) ∧
    (let s := { State.reset with versionReq := 40, segs := [⟨.byte, List.replicate 17 0⟩] }
     s.versionReq ≤ 40 ∧ s.versionReq ≠ 0 ∧ fits s.segs s.versionReq s.level = true) ∧
    (let s := { State.reset with segs := [⟨.byte, List.replicate 17 0⟩] }
     s.versionReq ≤ 40 ∧ s.versionReq = 0 ∧ selectVersion? s.segs s.level = some 1 ∧ fits s.segs 1 s.level = true) :=
  ⟨by decide +kernel, ⟨by decide, rfl, select_none_1274⟩, by decide +kernel, by decide +kernel⟩

theorem witness_IsDarkReadsGrid :
    (withArgs 0 0 0).symState ≠ .made ∧
    (madeWith 2 [] 2 0).moduleCount ≤ (madeWith 2 [] 2 0).arg.w0.toNat ∧
    (madeWith 2 [] 0 2).moduleCount ≤ (madeWith 2 [] 0 2).arg.w1.toNat ∧
    (let s := madeWith 2 [[.light, .dark], [.light, .light]] 0 1
     s.symState = .made ∧ s.arg.w0.toNat < s.moduleCount ∧ s.arg.w1.toNat < s.moduleCount ∧
       s.grid.cell s.arg.w0.toNat s.arg.w1.toNat = .dark) ∧
    (let s := madeWith 2 [[.light, .dark], [.light, .light]] 1 1
     s.symState = .made ∧ s.arg.w0.toNat < s.moduleCount ∧ s.arg.w1.toNat < s.moduleCount ∧
       s.grid.cell s.arg.w0.toNat s.arg.w1.toNat ≠ .dark) := by decide

/-- A command with 2 cycles left or in its last, one that decodes and one that names no command, and an offset of each kind. -/
theorem witness_BusyWritesAreIgnored :
    (∀ (n : Nat) (a : Offset), (busyWith n (.write .word a 2)).running = some ⟨0, n⟩ ∧
      (busyWith n (.write .word a 2)).events = [.write .word a 2]) ∧
    1 < 2 ∧ 1 ≤ 1 ∧ decodeWord 0 = .ok .nop ∧ decodeWord 0x00000006 = .error .reservedOpcode ∧
    ([0x00C, 0x01C, 0x058, 0x064, 0x400, 0xBFC, 0x004, 0x008, 0x000, 0x020, 0x7FFC, 0x3FFC] : List Offset).all
      (fun a => a.toNat % 4 == 0) = true ∧
    regAt 0x00C = .cmd ∧ regAt 0x01C = .arg 3 ∧ regAt 0x058 = .segFifo ∧ regAt 0x064 = .winLen .b ∧ regAt 0x400 = .winCell .a 0 ∧
    regAt 0xBFC = .winCell .b 255 ∧ regAt 0x004 = .ctrl ∧ (2 : Word).getLsbD 0 = false ∧ (3 : Word).getLsbD 0 = true ∧ regAt 0x008 = .status ∧
    regAt 0x000 = .id ∧ regAt 0x020 = .res 0 ∧ regAt 0x7FFC = .cwByte 4095 ∧ regAt 0x3FFC = .unmapped :=
  ⟨fun _ _ => ⟨rfl, rfl⟩, by decide +kernel⟩

/-- In its last cycle NOP completes on the state the ignored write leaves (R283, R320). -/
theorem test_busy_write_in_last_cycle :
    (after (step (busyWith 1 (.write .word 0x010 5)))).map (fun t => (t.statusWord, t.arg.w0)) = some (0x00000042, 0) := by
  decide +kernel

/-- Idle, and with a command in its last cycle; by the host's write and by the reset input. -/
theorem witness_SoftResetRestoresResetState :
    ((idleWith (.write .word 0x004 1)).events = [.write .word 0x004 1] ∧ (1 : Word).getLsbD 0 = true) ∧
    ((busyWith 1 (.write .word 0x004 3)).events = [.write .word 0x004 3] ∧ (3 : Word).getLsbD 0 = true) ∧
    (idleWith .resetPin).events = [.resetPin] ∧ (busyWith 1 .resetPin).events = [.resetPin] := by decide +kernel

/-- The reset input abandons the command in progress without completion (R310). -/
theorem test_reset_input_abandons_command :
    (after (step { busyWith 1 .resetPin with arg := ⟨5, 0, 0, 0⟩ })).map (fun t => (t.statusWord, t.running, t.arg.w0)) =
      some (0, none, 0) := by decide +kernel

/-- Each size of a read and of a write, and a busy block with 2 cycles left or in the last. -/
theorem witness_ReadsHaveNoSideEffect :
    (AccessSize.half ≠ .word ∧ (idleWith (.read .half 0)).events = [.read .half 0] ∧
      (busyWith 1 (.write .byte 0x010 7)).events = [.write .byte 0x010 7]) ∧
    ((0x005 : Offset).toNat % 4 ≠ 0 ∧ (idleWith (.read .word 0x005)).events = [.read .word 0x005] ∧
      (idleWith (.write .word 0x005 7)).events = [.write .word 0x005 7]) ∧
    ((idleWith (.read .word 0x7FFC)).running = none ∧ (0x7FFC : Offset).toNat % 4 = 0) ∧
    ((busyWith 2 (.read .word 0x008)).running = some ⟨0, 2⟩ ∧ (busyWith 1 (.read .word 0x008)).running = some ⟨0, 1⟩ ∧
      regAt 0x008 = .status ∧ regAt 0x3FFC = .unmapped) ∧
    ((busyWith 2 (.read .word 0x020)).running = some ⟨0, 2⟩ ∧ regAt 0x020 = .res 0) ∧
    (7 < 8 ∧ 255 < 256 ∧ 1023 < 1024 ∧ 4095 < 4096 ∧ 31 < 32 ∧ (0x070 ≤ 0x07C ∧ 0x07C < 0x080)) := by decide +kernel

/-- A narrow and a misaligned write are refused by name (R63). -/
theorem test_narrow_and_misaligned_writes_refused :
    step (idleWith (.write .byte 0x010 7)) = .refused .narrowAccess ∧
    step (idleWith (.write .word 0x012 7)) = .refused .misalignedAccess := ⟨rfl, rfl⟩

theorem witness_IdleWritesReachOperands :
    (∀ a : Offset, (idleWith (.write .word a 256)).running = none ∧ (idleWith (.write .word a 256)).cells.wf = true ∧
      (idleWith (.write .word a 256)).events = [.write .word a 256]) ∧
    ([0x010, 0x058, 0x060, 0x400, 0xBFC, 0x008, 0x004, 0x000, 0x3FFC] : List Offset).all (fun a => a.toNat % 4 == 0) = true ∧
    regAt 0x008 = .status ∧ regAt 0x004 = .ctrl ∧ (256 : Word).getLsbD 0 = false ∧ regAt 0x000 = .id ∧ regAt 0x3FFC = .unmapped ∧
    regAt 0x010 = .arg 0 ∧ regAt 0x058 = .segFifo ∧ regAt 0x060 = .winLen .a ∧ (256 : Word).toNat ≤ 256 ∧
    256 < (257 : Word).toNat ∧ regAt 0x400 = .winCell .a 0 ∧ regAt 0xBFC = .winCell .b 255 :=
  ⟨fun _ => ⟨rfl, rfl, rfl⟩, by decide +kernel⟩

theorem witness_IrqFollowsDoneAndEnable :
    (∃ t, exec .nop { State.reset with irqEn := true } = .next t ∧ t.irq = true) ∧ (2 : Word).getLsbD 1 = true ∧
    (1 : Word).getLsbD 1 = false := ⟨⟨_, rfl, rfl⟩, by decide, by decide⟩

end Sys2Proof.Tests
end

namespace Sys2Proof.Machine

/-! # Polynomials: the lengths of remainders and generators (R113 to R117) -/

/-- EXP undoes LOG on every field element but 0 (R102). -/
theorem gexp_glog {c : Byte} (hc : c ≠ 0) : gexp (glog c) = c := by
  have h : ∀ n < 256, n ≠ 0 → (gexp (logOf n)).toNat = n := by decide +kernel
  exact BitVec.eq_of_toNat_eq (h c.toNat c.isLt fun h0 => hc (BitVec.eq_of_toNat_eq h0))

/-- A pass of the long division cancels the leading coefficient (R113). -/
theorem modCoeff_leading {c e : Byte} (hc : c ≠ 0) (he : e ≠ 0) : modCoeff (glog c - glog e) c e = 0 := by
  rw [modCoeff, if_neg he, add_sub_cancel, gexp_glog hc, BitVec.xor_self]
  rfl

@[simp] theorem modPass_length (ratio : Int) (a e : Poly) : (modPass ratio a e).length = a.length := by
  induction a generalizing e with
  | nil => rfl
  | cons c cs ih =>
    cases e with
    | nil => rfl
    | cons d ds => simp [modPass, ih]

@[simp] theorem strip_strip (p : Poly) : strip (strip p) = strip p := List.dropWhile_idempotent _ _

/-- A stripped polynomial leads with a coefficient other than 0. -/
theorem leading_ne_zero_of_strip {c : Byte} {cs : Poly} (h : strip (c :: cs) = c :: cs) : c ≠ 0 := by
  rintro rfl
  have hle := strip_length_le cs
  rw [← strip_zero_cons, h, List.length_cons] at hle
  omega

/-- A pass on stripped operands leaves a shorter dividend (R114). -/
theorem strip_modPass_length_lt {c d : Byte} {cs ds : Poly} (hc : c ≠ 0) (hd : d ≠ 0) :
    (strip (modPass (glog c - glog d) (c :: cs) (d :: ds))).length < (c :: cs).length := by
  rw [modPass, modCoeff_leading hc hd, strip_zero_cons]
  have := strip_length_le (modPass (glog c - glog d) cs ds)
  rw [modPass_length] at this
  simp only [List.length_cons]
  omega

/-- The loop of the remainder ends below the divisor's length once its fuel covers the dividend (R114). -/
theorem pmodLoop_length_lt {e : Poly} (hne : e ≠ []) (he : strip e = e) (fuel : Nat) (a : Poly) (ha : strip a = a)
    (hfuel : a.length ≤ fuel) : (pmodLoop e fuel a).length < e.length := by
  induction fuel generalizing a with
  | zero =>
    have := List.length_pos_iff.2 hne
    rw [pmodLoop]
    omega
  | succ fuel ih =>
    rw [pmodLoop]
    split
    · assumption
    · next hlen =>
      obtain ⟨d, ds, rfl⟩ := List.exists_cons_of_ne_nil hne
      cases a with
      | nil => simp at hlen
      | cons c cs =>
        have hlt := strip_modPass_length_lt (cs := cs) (ds := ds) (leading_ne_zero_of_strip ha) (leading_ne_zero_of_strip he)
        simp only [construct_zero]
        exact ih _ (strip_strip _) (by simp only [List.headD_cons]; omega)

/-- The remainder is shorter than the divisor (R114). -/
theorem pmod?_length_lt {a e r : Poly} (h : pmod? a e = some r) : r.length < (strip e).length := by
  simp only [pmod?, construct_zero] at h
  split at h
  · cases h
  · next hne =>
    cases h
    exact pmodLoop_length_lt hne (strip_strip e) _ _ (strip_strip a) le_rfl

/-- The leading coefficient of a product is the product of the leading coefficients. -/
theorem pmul_headD {a b : Byte} (as bs : Poly) (ha : a ≠ 0) (hb : b ≠ 0) (h : gmul a b ≠ 0) :
    (pmul (a :: as) (b :: bs)).headD 0 = gmul a b := by
  have hs : (pmulRows (b :: bs) (zeros ((a :: as).length + (b :: bs).length - 1)) 0 (a :: as)).headD 0 = gmul a b := by
    rw [pmulRows, pmulRows_head _ _ (Nat.succ_pos 0), pmulRow, pmulRow_head _ _ (Nat.succ_pos 0),
      show (a :: as).length + (b :: bs).length - 1 = as.length + bs.length + 1 by simp; omega]
    simp [xorAt, zeros, List.replicate_succ]
  simp only [pmul, construct_zero, strip_cons_of_ne ha, strip_cons_of_ne hb]
  rw [if_neg (by simp), strip_eq_self (by rw [hs]; exact h), hs]

theorem byte_one_ne_zero : (1 : Byte) ≠ 0 := by decide

/-- The generator of degree `n` leads with 1 and has `n + 1` coefficients (R116). -/
theorem gen_eq_one_cons (n : Nat) : ∃ cs : Poly, gen n = 1 :: cs ∧ cs.length = n := by
  induction n with
  | zero => exact ⟨[], rfl, rfl⟩
  | succ n ih =>
    obtain ⟨cs, hgen, hlen⟩ := ih
    have hone : gmul 1 1 = 1 := by decide
    have hl := pmul_length cs [gexp n] byte_one_ne_zero byte_one_ne_zero (by decide)
    have hh := pmul_headD cs [gexp n] byte_one_ne_zero byte_one_ne_zero (by decide)
    rw [gen, hgen]
    cases hp : pmul (1 :: cs) [1, gexp n] with
    | nil => rw [hp] at hl; simp at hl
    | cons c ds =>
      rw [hp] at hl hh
      simp only [List.headD_cons, List.length_cons, List.length_nil, hone] at hh hl
      exact ⟨ds, by rw [hh], by omega⟩

@[simp] theorem gen_length (n : Nat) : (gen n).length = n + 1 := by
  obtain ⟨cs, hgen, hlen⟩ := gen_eq_one_cons n
  simp [hgen, hlen]

@[simp] theorem strip_gen (n : Nat) : strip (gen n) = gen n := by
  obtain ⟨cs, hgen, -⟩ := gen_eq_one_cons n
  rw [hgen, strip_cons_of_ne byte_one_ne_zero]

/-- The encoder gives exactly the EC count of bytes (R117). -/
@[simp] theorem rsEc_length (data : Poly) (n : Nat) : (rsEc data n).length = n := by
  unfold rsEc
  split
  · next rem h =>
    have hlt := pmod?_length_lt h
    rw [strip_gen, gen_length] at hlt
    simp only [List.length_append, zeros_length]
    omega
  · exact zeros_length n

end Sys2Proof.Machine

namespace Sys2Proof

/-! # What a command can write: the inversion lemma of `exec`, and the frame of the writes -/

/-- The commands that write nothing but RES and STATUS. -/
def Instr.onlyAnswers : Instr → Bool
  | .nop | .isDark | .gfExp | .gfLog | .gfMul | .ecPlan | .rawModules | .ccw | .bbGetbit | .penalty | .maskEval
  | .formatBits | .versionBits | .alignPos => true
  | .create | .addData | .make | .stageClear | .polyConstruct | .polyMul | .polyMod | .polyMove | .rsGen | .rsEncode
  | .bbClear | .bbPut | .bbPutbit | .render => false

end Sys2Proof

namespace Sys2Proof.Machine

/-- `Writes s i u`: command `i`, ending well from `s`, has written `u`, RES and STATUS aside; with what it has tested before. -/
inductive Writes (s : State) : Instr → State → Prop
  | nothing {i : Instr} (hi : i.onlyAnswers = true) : Writes s i s
  | create {v : Nat} (lvl : Level) (hv : v ≤ Config.vmax) : Writes s .create (s.newSymbol v lvl)
  | addData {m : Mode} (hstore : s.segStoreFull = false) (hvalid : validIn m s.stage = true) :
      Writes s .addData (s.addSegment m)
  | make {x : Symbol} (hx : makeSymbol s.versionReq s.level s.segs = .ok x) : Writes s .make (s.commit x)
  | stageClear : Writes s .stageClear s.clearStage
  | polyConstruct (w : Win) {n : Nat} (hn : (construct (s.rawList w) n).length ≤ Config.polyMax) :
      Writes s .polyConstruct (s.writeWin w (construct (s.rawList w) n))
  | polyMul {p : Poly} (hp : p.length ≤ Config.polyMax) : Writes s .polyMul (s.writeR p)
  | polyMod {p : Poly} (hp : pmod? (construct (s.rawList .a) 0) (construct (s.rawList .b) 0) = some p) :
      Writes s .polyMod (s.writeR p)
  | polyMove (w : Win) : Writes s .polyMove (s.writeWin w s.r)
  | rsGen {n : Nat} (hn : n ≤ Config.genMaxL) : Writes s .rsGen (s.writeR (gen n))
  | rsEncode {n : Nat} (hn : n ≤ Config.genMaxL) : Writes s .rsEncode (s.writeR (rsEc (s.rawList .a) n))
  | bbClear : Writes s .bbClear { s with bb := [] }
  | bbPut {value n : Nat} (hn : s.bbLen + n ≤ Config.bbMaxBits) : Writes s .bbPut { s with bb := put s.bb value n }
  | bbPutbit {b : Bool} (hn : s.bbLen + 1 ≤ Config.bbMaxBits) : Writes s .bbPutbit { s with bb := putBit s.bb b }
  | render (m : Fin 8) (test : Bool) (hmade : s.symState = .made) :
      Writes s .render { s with grid := render s.versionEff s.level s.cw m test, final := false }

/-- A command's two ends: with an error, which writes nothing (R284), or well, with its writes (R283). -/
inductive Ends (s : State) (i : Instr) : Result → Prop
  | raised (e : ErrCode) : Ends s i (raise e s)
  | succeeded {u : State} (q : Quad) (hu : Writes s i u) : Ends s i (succeed u q)

/-- A command that only answers ends with an error or with its results. -/
theorem Ends.answered {s : State} {i : Instr} (q : Quad) (hi : i.onlyAnswers = true) : Ends s i (succeed s q) :=
  .succeeded q (.nothing hi)

/-- A command that tests a condition ends as its branches do. -/
theorem Ends.ite {s : State} {i : Instr} {c : Prop} [Decidable c] {r r' : Result} (h : Ends s i r) (h' : Ends s i r') :
    Ends s i (if c then r else r') := by
  split
  · exact h
  · exact h'

/-- How a command that only answers ends. -/
theorem exec_ends_of_onlyAnswers {i : Instr} (hi : i.onlyAnswers = true) (s : State) : Ends s i (exec i s) := by
  cases i
  case nop => exact .answered _ rfl
  case gfExp => exact .answered _ rfl
  case isDark => exact .ite (.raised _) (.answered _ rfl)
  case gfMul => exact .ite (.raised _) (.answered _ rfl)
  case bbGetbit => exact .ite (.raised _) (.answered _ rfl)
  case penalty => exact .ite (.raised _) (.answered _ rfl)
  case rawModules => exact .ite (.answered _ rfl) (.raised _)
  case versionBits => exact .ite (.answered _ rfl) (.raised _)
  case alignPos => exact .ite (.answered _ rfl) (.raised _)
  case gfLog =>
    simp only [exec, execGfLog]
    split
    · exact .raised _
    · exact .answered _ rfl
  case ecPlan =>
    simp only [exec, execEcPlan]
    split
    · exact .raised _
    · exact .answered _ rfl
  case ccw =>
    simp only [exec, execCcw]
    split
    · exact .raised _
    · exact .ite (.answered _ rfl) (.raised _)
  case maskEval =>
    simp only [exec, execMaskEval]
    split
    · exact .raised _
    · exact .ite (.raised _) (.answered _ rfl)
  case formatBits =>
    simp only [exec, execFormatBits]
    split
    · exact .answered _ rfl
    · exact .raised _
  all_goals cases hi

theorem execCreate_ends (s : State) : Ends s .create (execCreate s) := by
  unfold execCreate
  split
  · exact .raised _
  · next hv =>
    split
    · exact .raised _
    · next lvl _ => exact .succeeded _ (.create lvl (Nat.not_lt.1 hv))

theorem execAddData_ends (s : State) : Ends s .addData (execAddData s) := by
  unfold execAddData
  split
  · exact .raised _
  · split
    · exact .raised _
    · next hstore =>
      split
      · exact .raised _
      · next hvalid => exact .succeeded _ (.addData (by simpa using hstore) (by simpa using hvalid))

theorem execMake_ends (s : State) : Ends s .make (execMake s) := by
  unfold execMake
  split
  · exact .raised _
  · next x hx => exact .succeeded _ (.make hx)

theorem execPolyConstruct_ends (s : State) : Ends s .polyConstruct (execPolyConstruct s) := by
  unfold execPolyConstruct
  split
  · exact .raised _
  · next w _ =>
    dsimp only
    split
    · exact .raised _
    · next hn => exact .succeeded _ (.polyConstruct w (by simpa [construct] using hn))

theorem execPolyMul_ends (s : State) : Ends s .polyMul (execPolyMul s) := by
  unfold execPolyMul
  dsimp only
  split
  · exact .raised _
  · next hp => exact .succeeded _ (.polyMul (Nat.not_lt.1 hp))

theorem execPolyMod_ends (s : State) : Ends s .polyMod (execPolyMod s) := by
  unfold execPolyMod
  split
  · exact .raised _
  · next p hp => exact .succeeded _ (.polyMod hp)

theorem execPolyMove_ends (s : State) : Ends s .polyMove (execPolyMove s) := by
  unfold execPolyMove
  split
  · exact .raised _
  · next w _ => exact .succeeded _ (.polyMove w)

theorem execRsGen_ends (s : State) : Ends s .rsGen (execRsGen s) := by
  unfold execRsGen
  split
  · exact .raised _
  · next hn => exact .succeeded _ (.rsGen (Nat.not_lt.1 hn))

theorem execRsEncode_ends (s : State) : Ends s .rsEncode (execRsEncode s) := by
  unfold execRsEncode
  split
  · exact .raised _
  · next hn => exact .succeeded _ (.rsEncode (Nat.not_lt.1 hn))

theorem execBbPut_ends (s : State) : Ends s .bbPut (execBbPut s) := by
  unfold execBbPut
  split
  · exact .raised _
  · split
    · exact .raised _
    · next hn => exact .succeeded _ (.bbPut (Nat.not_lt.1 hn))

theorem execBbPutbit_ends (s : State) : Ends s .bbPutbit (execBbPutbit s) := by
  unfold execBbPutbit
  split
  · exact .raised _
  · next hn => exact .succeeded _ (.bbPutbit (Nat.not_lt.1 hn))

theorem execRender_ends (s : State) : Ends s .render (execRender s) := by
  unfold execRender
  split
  · exact .raised _
  · next hmade =>
    split
    · exact .raised _
    · next m _ =>
      split
      · exact .raised _
      · exact .succeeded _ (.render m _ (not_not.1 hmade))

/-- How any command ends: the inversion lemma of `exec`. -/
theorem exec_ends (i : Instr) (s : State) : Ends s i (exec i s) := by
  cases i
  case create => exact execCreate_ends s
  case addData => exact execAddData_ends s
  case make => exact execMake_ends s
  case stageClear => exact .succeeded _ .stageClear
  case polyConstruct => exact execPolyConstruct_ends s
  case polyMul => exact execPolyMul_ends s
  case polyMod => exact execPolyMod_ends s
  case polyMove => exact execPolyMove_ends s
  case rsGen => exact execRsGen_ends s
  case rsEncode => exact execRsEncode_ends s
  case bbClear => exact .succeeded _ .bbClear
  case bbPut => exact execBbPut_ends s
  case bbPutbit => exact execBbPutbit_ends s
  case render => exact execRender_ends s
  all_goals exact exec_ends_of_onlyAnswers rfl s

/-- What a command answers is a completion of the state before it, or of its writes. -/
theorem exec_cases {i : Instr} {s t : State} (h : exec i s = .next t) :
    (∃ e, t = s.complete e Quad.zero) ∨ ∃ u q, Writes s i u ∧ t = u.complete .ok q := by
  generalize hr : exec i s = r at h
  have hends := exec_ends i s
  rw [hr] at hends
  cases hends with
  | raised e => exact .inl ⟨e, ((raise_eq_next _ _ _).1 h).symm⟩
  | succeeded q hu => exact .inr ⟨_, q, hu, ((succeed_eq_next _ _ _).1 h).symm⟩

/-! ## The frame of the writes -/

/-- A run of cell writes changes nothing but the cells. -/
theorem State.setCells_eq (s : State) (a : Nat) (p : List Byte) :
    s.setCells a p = { s with cells := (s.setCells a p).cells } := by
  induction p generalizing s a with
  | nil => rfl
  | cons b bs ih => exact ih (s.setCell a b) (a + 4)

/-- A command's write of a window changes nothing but the cells and the window's length (R115, R120). -/
theorem State.writeWin_eq (s : State) (w : Win) (p : List Byte) :
    s.writeWin w p =
      { s with
        cells := (s.setCells w.base p).cells
        aLen := if w = .a then p.length else s.aLen
        bLen := if w = .b then p.length else s.bLen } := by
  cases w <;> rw [State.writeWin, State.setCells_eq] <;> rfl

/-- A command's writes leave the host's side alone, and VERSION_REQ and LEVEL unless it is CREATE (R26, R29, R30, R287). -/
theorem Writes.frame {s u : State} {i : Instr} (h : Writes s i u) :
    u.arg = s.arg ∧ u.irqEn = s.irqEn ∧ u.cmdOvf = s.cmdOvf ∧ u.events = s.events ∧ u.rdata = s.rdata ∧
    u.latencies = s.latencies ∧ u.epoch = s.epoch ∧ u.free = s.free ∧
    (i ≠ .create → u.versionReq = s.versionReq ∧ u.level = s.level) := by
  cases h
  case create => exact ⟨rfl, rfl, rfl, rfl, rfl, rfl, rfl, rfl, fun hi => absurd rfl hi⟩
  case polyConstruct =>
    rw [State.writeWin_eq]
    exact ⟨rfl, rfl, rfl, rfl, rfl, rfl, rfl, rfl, fun _ => ⟨rfl, rfl⟩⟩
  case polyMove =>
    rw [State.writeWin_eq]
    exact ⟨rfl, rfl, rfl, rfl, rfl, rfl, rfl, rfl, fun _ => ⟨rfl, rfl⟩⟩
  all_goals exact ⟨rfl, rfl, rfl, rfl, rfl, rfl, rfl, rfl, fun _ => ⟨rfl, rfl⟩⟩

/-- Settles O10: a completion writes RES and STATUS alone, and a command's writes have the frame above. -/
theorem noCommandWritesOperandsOrHostState : Obligations.NoCommandWritesOperandsOrHostState := by
  intro i s t h
  rcases exec_cases h with ⟨e, rfl⟩ | ⟨u, q, hu, rfl⟩
  · exact ⟨rfl, rfl, rfl, rfl, rfl, rfl, rfl, rfl, fun _ => ⟨rfl, rfl⟩⟩
  · exact hu.frame

end Sys2Proof.Machine

namespace Sys2Proof.Machine

/-! # The invariant: at reset, and through the writes of commands -/

/-- A reset, hardware or soft, of any state gives the invariant. -/
theorem State.afterReset_inv (s : State) : s.afterReset.Inv where
  cellsWf := rfl
  cellsInWindows := by simp
  aLen := Nat.zero_le _
  bLen := Nat.zero_le _
  rLen := Nat.zero_le _
  bbLen := Nat.zero_le _
  stageLen := Nat.zero_le _
  stageOvf := nofun
  segCount := Nat.zero_le _
  segBytes := Nat.zero_le _
  segsValid := by simp
  versionReq := Nat.zero_le _
  empty := fun _ => rfl
  notMade := fun _ => ⟨rfl, rfl, rfl, rfl, rfl, rfl, rfl, rfl⟩
  made := nofun
  running := nofun

/-- Settles O2: the reset state is the state after a reset, but for the count of resets. -/
theorem resetMeetsInvariant : Obligations.ResetMeetsInvariant :=
  { State.reset.afterReset_inv with }

namespace State.Inv

variable {s u : State}

/-! ## Completion, acceptance and the count of cycles -/

/-- A completion keeps the invariant. -/
theorem complete (h : s.Inv) (e : ErrCode) (q : Quad) : (s.complete e q).Inv := { h with running := nofun }

/-- The acceptance of a command keeps the invariant. -/
theorem accept (h : s.Inv) (w : Word) : (s.accept w).Inv :=
  { h with
    running := by
      rintro c ⟨⟩
      exact ⟨Nat.le_add_right 1 _, rfl⟩ }

/-- A cycle of a command that has more than one left keeps the invariant. -/
theorem countCycle (h : s.Inv) {c : Running} (hc : s.running = some c) (hleft : 1 < c.left) :
    State.Inv { s with running := some ⟨c.cmd, c.left - 1⟩ } :=
  { h with
    running := by
      rintro c' ⟨⟩
      exact ⟨Nat.le_sub_one_of_lt hleft, (h.running c hc).2⟩ }

/-! ## The writes of commands -/

theorem clearStage (h : s.Inv) : s.clearStage.Inv :=
  { h with stageLen := Nat.zero_le _, stageOvf := nofun }

/-- CREATE starts a symbol without segments (R260). -/
theorem newSymbol (h : s.Inv) {v : Nat} (lvl : Level) (hv : v ≤ Config.vmax) : (s.newSymbol v lvl).Inv :=
  { h.clearStage with
    segCount := Nat.zero_le _
    segBytes := Nat.zero_le _
    segsValid := nofun
    versionReq := hv
    empty := fun _ => rfl
    notMade := fun _ => ⟨rfl, rfl, rfl, rfl, rfl, rfl, rfl, rfl⟩
    made := nofun }

/-- ADD_DATA appends a segment that the store has room for and that is valid in its mode (R150). -/
theorem addSegment (h : s.Inv) {m : Mode} (hstore : s.segStoreFull = false) (hvalid : validIn m s.stage = true) :
    (s.addSegment m).Inv := by
  simp only [State.segStoreFull, Bool.or_eq_false_iff, beq_eq_false_iff_ne, decide_eq_false_iff_not] at hstore
  obtain ⟨⟨-, hcount⟩, hbytes⟩ := hstore
  exact { h.clearStage with
    segCount := by
      have := h.segCount
      simp only [State.segCount, State.addSegment, List.length_append, List.length_singleton] at *
      omega
    segBytes := by
      simpa [State.segBytes, State.stageLen, segBytesOf, State.addSegment] using hbytes
    segsValid := by
      intro g hg
      rcases List.mem_append.1 hg with hg | hg
      · exact h.segsValid g hg
      · rw [List.mem_singleton.1 hg]
        exact hvalid
    empty := nofun
    notMade := fun _ => ⟨rfl, rfl, rfl, rfl, rfl, rfl, rfl, rfl⟩
    made := nofun }

/-- MAKE leaves the registers of the symbol it found (R261). -/
theorem commit (h : s.Inv) {x : Symbol} (hx : makeSymbol s.versionReq s.level s.segs = .ok x) : (s.commit x).Inv :=
  { h with
    empty := nofun
    notMade := fun hn => absurd rfl hn
    made := fun _ => ⟨x, hx, rfl, rfl, rfl, rfl, rfl, rfl, rfl, fun _ => rfl⟩ }

/-- RENDER keeps the registers of the made symbol and leaves FINAL = 0, so that the grid is not claimed (R246). -/
theorem render (h : s.Inv) (g : Grid) (hmade : s.symState = .made) : State.Inv { s with grid := g, final := false } :=
  { h with
    notMade := fun hn => absurd hmade hn
    made := by
      intro _
      obtain ⟨x, hx, hver, hcount, hmask, hbits, hcw, hp, hdark, -⟩ := h.made hmade
      exact ⟨x, hx, hver, hcount, hmask, hbits, hcw, hp, hdark, nofun⟩ }

/-- A write of a window with at most 256 bytes. -/
theorem writeWin (h : s.Inv) (w : Win) {p : List Byte} (hp : p.length ≤ Config.polyMax) : (s.writeWin w p).Inv := by
  rw [State.writeWin_eq]
  exact { h with
    cellsWf := State.setCells_wf s h.cellsWf _ _
    cellsInWindows := by
      intro q hq
      rcases State.mem_setCells s _ _ hq with hq | ⟨i, hi, hq⟩
      · exact h.cellsInWindows q hq
      · rw [polyMax_eq] at hp
        cases w <;> simp only [Win.base] at hq <;> omega
    aLen := by
      dsimp only
      split
      · exact hp
      · exact h.aLen
    bLen := by
      dsimp only
      split
      · exact hp
      · exact h.bLen }

theorem writeR (h : s.Inv) {p : List Byte} (hp : p.length ≤ Config.polyMax) : (s.writeR p).Inv := { h with rLen := hp }

theorem setBb (h : s.Inv) {bb : List Bool} (hbb : bb.length ≤ Config.bbMaxBits) : State.Inv { s with bb := bb } :=
  { h with bbLen := hbb }

theorem winLen_le (h : s.Inv) : ∀ w, s.winLen w ≤ Config.polyMax
  | .a => h.aLen
  | .b => h.bLen

/-- A window's raw list has the window's length. -/
theorem rawList_length_le (h : s.Inv) (w : Win) : (s.rawList w).length ≤ Config.polyMax := by
  simpa [State.rawList] using h.winLen_le w

/-- The remainder POLY_MOD finds fits window R (R114, R119). -/
theorem pmod?_length_le (h : s.Inv) {p : Poly}
    (hp : pmod? (construct (s.rawList .a) 0) (construct (s.rawList .b) 0) = some p) : p.length ≤ Config.polyMax := by
  have hlt := pmod?_length_lt hp
  rw [construct_zero, strip_strip] at hlt
  exact hlt.le.trans ((strip_length_le _).trans (h.rawList_length_le .b))

/-- The writes of a command keep the invariant. -/
theorem writes (h : s.Inv) {i : Instr} (hu : Writes s i u) : u.Inv := by
  cases hu with
  | nothing => exact h
  | create lvl hv => exact h.newSymbol lvl hv
  | addData hstore hvalid => exact h.addSegment hstore hvalid
  | make hx => exact h.commit hx
  | stageClear => exact h.clearStage
  | polyConstruct w hn => exact h.writeWin w hn
  | polyMul hp => exact h.writeR hp
  | polyMod hp => exact h.writeR (h.pmod?_length_le hp)
  | polyMove w => exact h.writeWin w h.rLen
  | rsGen hn => exact h.writeR (by rw [gen_length]; exact Nat.succ_le_succ hn)
  | rsEncode hn => exact h.writeR (by rw [rsEc_length]; exact hn.trans (by decide))
  | bbClear => exact h.setBb (Nat.zero_le _)
  | bbPut hn => exact h.setBb (by rw [put_length]; exact hn)
  | bbPutbit hn => exact h.setBb (by rw [putBit_length]; exact hn)
  | render m test hmade => exact h.render _ hmade

/-- Every command keeps the invariant. -/
theorem exec (h : s.Inv) {i : Instr} (hu : exec i s = .next u) : u.Inv := by
  rcases exec_cases hu with ⟨e, rfl⟩ | ⟨v, q, hv, rfl⟩
  · exact h.complete e _
  · exact (h.writes hv).complete .ok q

end State.Inv
end Sys2Proof.Machine

namespace Sys2Proof.Machine

/-! # The invariant through the host's accesses and a whole step -/

/-- No control register is a cell of a window (R21). -/
theorem controlReg_ne_winCell (a : Nat) (w : Win) (i : Nat) : controlReg a ≠ .winCell w i := by
  unfold controlReg
  split <;> exact nofun

/-- A cell register stands at its cell's offset, inside its window (R21). -/
theorem offset_of_regAt_eq_winCell {a i : Nat} {w : Win} (h : regAt a = .winCell w i) (ha : a % 4 = 0) :
    i < 256 ∧ w.offset i = a := by
  unfold regAt at h
  split_ifs at h
  case pos => exact absurd h (controlReg_ne_winCell a w i)
  all_goals
    injection h with hw hi
    subst hw hi
    simp only [Win.offset, Win.base]
    omega

/-- An aligned word read reaches the register (R63). -/
theorem State.hostEvent_read_word (s : State) {a : Offset} (ha : a.toNat % 4 = 0) :
    s.hostEvent (.read .word a) = .next (s.busRead a.toNat) := by
  simp [State.hostEvent, accessRefusal?, ha]

/-- An aligned word write reaches the register (R63). -/
theorem State.hostEvent_write_word (s : State) {a : Offset} (ha : a.toNat % 4 = 0) (v : Word) :
    s.hostEvent (.write .word a v) = .next (s.busWrite a.toNat v) := by
  simp [State.hostEvent, accessRefusal?, ha]

/-- An idle block's cycle ends with nothing done. -/
theorem tick_of_idle {run : Instr → State → Result} {s : State} (h : s.running = none) : tick run s = .next s := by
  rw [tick, h]

namespace State.Inv

variable {s u : State}

theorem withEvents (h : s.Inv) (rest : List HostEvent) : (s.withEvents rest).Inv := { h with }

/-- A read changes nothing of the block (R67, R321). -/
theorem busRead (h : s.Inv) (a : Nat) : (s.busRead a).Inv := by
  unfold State.busRead
  split
  · exact { h with }
  · exact { h with }

theorem writeCtrl (h : s.Inv) (v : Word) : (s.writeCtrl v).Inv := by
  unfold State.writeCtrl
  split
  · exact s.afterReset_inv
  · exact { h with }

theorem writeStatus (h : s.Inv) (v : Word) : (s.writeStatus v).Inv :=
  { h with
    running := by
      intro c hc
      obtain ⟨hleft, hdone⟩ := h.running c hc
      exact ⟨hleft, by simp [State.writeStatus, hdone]⟩ }

/-- A byte is appended while STAGE has room; STAGE_OVF is set when it has none (R39). -/
theorem pushByte (h : s.Inv) (v : Word) : (s.pushByte v).Inv := by
  unfold State.pushByte
  split
  · next hroom =>
    exact { h with
      stageLen := by simpa [State.stageLen] using hroom
      stageOvf := fun hovf => absurd (h.stageOvf hovf) (Nat.ne_of_lt hroom) }
  · next hfull => exact { h with stageOvf := fun _ => le_antisymm h.stageLen (Nat.not_lt.1 hfull) }

theorem writeLen (h : s.Inv) (w : Win) (v : Word) : (s.writeLen w v).Inv := by
  unfold State.writeLen
  split
  · next hv =>
    cases w
    · exact { h with aLen := hv }
    · exact { h with bLen := hv }
  · exact h

theorem setCell (h : s.Inv) {w : Win} {i : Nat} (hi : i < 256) (b : Byte) : (s.setCell (w.offset i) b).Inv :=
  { h with
    cellsWf := Memory.insert_wf h.cellsWf _ _
    cellsInWindows := by
      intro p hp
      rcases Memory.mem_insert hp with rfl | hp
      · cases w <;> simp only [Win.offset, Win.base] <;> omega
      · exact h.cellsInWindows p hp }

/-- A write that acts only while the block is idle, and sets CMD_OVF while it is busy (R320). -/
theorem unlessBusy (h : s.Inv) (hu : u.Inv) : (if s.busy then s.overrun else u).Inv := by
  split
  · exact { h with }
  · exact hu

/-- A write of the host at an aligned offset keeps the invariant. -/
theorem busWrite (h : s.Inv) {a : Nat} (ha : a % 4 = 0) (v : Word) : (s.busWrite a v).Inv := by
  unfold State.busWrite
  split
  · exact h.writeCtrl v
  · exact h.writeStatus v
  · exact h.unlessBusy (h.accept v)
  · exact h.unlessBusy { h with }
  · exact h.unlessBusy (h.pushByte v)
  · exact h.unlessBusy (h.writeLen _ v)
  · next hreg => exact h.unlessBusy (h.setCell (offset_of_regAt_eq_winCell hreg ha).1 _)
  · exact h

/-- What the host does in a cycle keeps the invariant. -/
theorem hostEvent (h : s.Inv) {e : HostEvent} (hu : s.hostEvent e = .next u) : u.Inv := by
  rcases State.hostEvent_cases hu with ⟨-, rfl⟩ | ⟨-, rfl⟩ | ⟨a, -, -, rfl⟩ | ⟨a, v, -, ha, rfl⟩
  · exact h
  · exact s.afterReset_inv
  · exact h.busRead _
  · exact h.busWrite ha v

/-- The end of a cycle keeps the invariant. -/
theorem tick (h : s.Inv) (hu : tick Machine.exec s = .next u) : u.Inv := by
  rcases tick_cases hu with ⟨-, rfl⟩ | ⟨c, hc, hleft, rfl⟩ | ⟨c, i, -, -, -, hexec⟩ | ⟨c, e, -, -, -, rfl⟩
  · exact h
  · exact h.countCycle hc hleft
  · exact h.exec hexec
  · exact h.complete _ _

end State.Inv

/-- Settles O3: the host's event of the cycle keeps the invariant, and so does the cycle's end, a completion included. -/
theorem stepKeepsInvariant : Obligations.StepKeepsInvariant := by
  intro s t h hstep
  rcases step_cases hstep with ⟨-, htick⟩ | ⟨e, rest, u, -, hevent, htick⟩
  · exact h.tick htick
  · exact ((h.withEvents rest).hostEvent hevent).tick htick

end Sys2Proof.Machine

namespace Sys2Proof.Machine

/-! # What the registers read as (R22 to R46) -/

/-- Bit `k` of a result, by division. -/
theorem word_getLsbD_eq {n k : Nat} {b : Bool} (hk : k < 32) (h : n / 2 ^ k % 2 = b.toNat) : (word n).getLsbD k = b := by
  rw [word, BitVec.getLsbD_ofNat, decide_eq_true hk, Bool.true_and, Nat.testBit_eq_decide_div_mod_eq, h]
  cases b <;> rfl

/-- A byte as a register value is zero-extended (R13). -/
theorem word_byte_eq_setWidth (b : Byte) : word b.toNat = b.setWidth 32 := by
  apply BitVec.eq_of_toNat_eq
  rw [word_toNat, BitVec.toNat_setWidth]

/-- CTRL reads IRQ_EN in bit 1 and 0 elsewhere (R23). -/
theorem ctrlWord_getLsbD (s : State) : ∀ k < 32, s.ctrlWord.getLsbD k = (k == 1 && s.irqEn) := by
  have h : ∀ b : Bool, ∀ k < 32, (word (2 * b.toNat)).getLsbD k = (k == 1 && b) := by decide
  exact h s.irqEn

/-- SEG_CLASS reads the three predicates in bits 0 to 2 and 0 elsewhere (R38). -/
theorem segClass_getLsbD (s : State) : ∀ k < 32, (word s.segClass).getLsbD k =
    ((k == 0 && validIn .numeric s.stage) || (k == 1 && validIn .alphanumeric s.stage) ||
      (k == 2 && validIn .kanji s.stage)) := by
  have h : ∀ n a c : Bool, ∀ k < 32, (word (n.toNat + 2 * a.toNat + 4 * c.toNat)).getLsbD k =
      ((k == 0 && n) || (k == 1 && a) || (k == 2 && c)) := by decide
  exact h _ _ _

theorem SymState.code_lt (x : SymState) : x.code < 3 := by cases x <;> decide

theorem ErrCode.code_lt (e : ErrCode) : e.code < 10 := by cases e <;> decide

/-- The fields of STATUS (R24). -/
theorem statusWord_fields (s : State) :
    s.statusWord.getLsbD 0 = s.running.isSome ∧ s.statusWord.getLsbD 1 = s.done ∧
    s.statusWord.toNat / 4 % 4 = s.symState.code ∧
    s.statusWord.getLsbD 4 = s.final ∧ s.statusWord.getLsbD 5 = s.stageOvf ∧
    s.statusWord.getLsbD 6 = s.cmdOvf ∧ s.statusWord.getLsbD 7 = false ∧
    s.statusWord.toNat / 256 = s.err.code := by
  have hbusy := Bool.toNat_le s.busy
  have hdone := Bool.toNat_le s.done
  have hstate := s.symState.code_lt
  have hfinal := Bool.toNat_le s.final
  have hstage := Bool.toNat_le s.stageOvf
  have hcmd := Bool.toNat_le s.cmdOvf
  have herr := s.err.code_lt
  have htoNat := word_toNat (s.busy.toNat + 2 * s.done.toNat + 4 * s.symState.code + 16 * s.final.toNat +
    32 * s.stageOvf.toNat + 64 * s.cmdOvf.toNat + 256 * s.err.code)
  unfold State.statusWord
  refine ⟨word_getLsbD_eq (b := s.busy) (by decide) ?_, word_getLsbD_eq (by decide) ?_, ?_,
    word_getLsbD_eq (by decide) ?_, word_getLsbD_eq (by decide) ?_, word_getLsbD_eq (by decide) ?_,
    word_getLsbD_eq (by decide) ?_, ?_⟩
  case refine_7 => rw [Bool.toNat_false]; omega
  all_goals omega

/-- The bits of a number read from bits, most significant first (R14). -/
theorem testBit_foldl_bits (bits : List Bool) (k : Nat) :
    (bits.foldl (fun (acc : Nat) (b : Bool) => 2 * acc + b.toNat) 0).testBit k = bits.reverse.getD k false := by
  induction bits using List.reverseRecOn generalizing k with
  | nil => simp
  | append_singleton bits b ih =>
    rw [List.foldl_append, List.reverse_append]
    cases k with
    | zero => cases b <;> simp [Nat.testBit_zero]
    | succ k =>
      rw [Nat.testBit_succ]
      have hdiv : (2 * bits.foldl (fun (acc : Nat) (b : Bool) => 2 * acc + b.toNat) 0 + b.toNat) / 2 =
          bits.foldl (fun (acc : Nat) (b : Bool) => 2 * acc + b.toNat) 0 := by
        have := Bool.toNat_le b
        omega
      simpa [hdiv] using ih k

/-- Bit `7 - (k mod 8)` of byte `⌊k/8⌋` is bit `k` of the buffer (R66). -/
theorem bufByte_getLsbD (buf : List Bool) (i k : Nat) :
    (bufByte buf i).getLsbD k = (decide (k < 8) && buf.getD (8 * i + (7 - k)) false) := by
  rw [bufByte, byteOfBits, BitVec.getLsbD_ofNat, testBit_foldl_bits]
  by_cases hk : k < 8
  · simp [List.getD_eq_getElem?_getD, hk]
  · simp [hk]

end Sys2Proof.Machine

namespace Sys2Proof.Machine

/-! # The register map, and the reads of the port (R21, R62, R63, R67, R321) -/

/-- Each register of the map reads as its rule says. -/
theorem registerValues (s : State) : RegisterValues s := by
  obtain ⟨hbusy, hdone, hstate, hfinal, hovf, hcmd, hzero, herr⟩ := statusWord_fields s
  unfold RegisterValues
  refine ⟨rfl, rfl, rfl, rfl, ctrlWord_getLsbD s, ?_, rfl, rfl, rfl, rfl, rfl, rfl, rfl, rfl, rfl, rfl, rfl, rfl, rfl, rfl,
    rfl, rfl, rfl, rfl, rfl, segClass_getLsbD s, rfl, rfl, rfl, rfl, rfl, fun m => ⟨rfl, rfl⟩, fun i => ?_⟩
  · refine ⟨hbusy, hdone, hstate.trans ?_, hfinal, hovf, hcmd, hzero, herr⟩
    cases s.symState <;> rfl
  · refine ⟨word_byte_eq_setWidth _, word_byte_eq_setWidth _, word_byte_eq_setWidth _, word_byte_eq_setWidth _, ?_⟩
    intro k hk
    rw [State.regValue, word_byte_eq_setWidth, BitVec.getLsbD_setWidth, decide_eq_true hk, Bool.true_and, bufByte_getLsbD]

/-! ## The register map (R21) -/

theorem regAt_trialP123 {m : Nat} (hm : m < 8) : regAt (0x080 + 4 * m) = .trialP123 m := by
  simp (disch := omega) only [regAt, if_neg, if_pos]
  exact congrArg Reg.trialP123 (by omega)

theorem regAt_trialDark {m : Nat} (hm : m < 8) : regAt (0x0A0 + 4 * m) = .trialDark m := by
  simp (disch := omega) only [regAt, if_neg, if_pos]
  exact congrArg Reg.trialDark (by omega)

theorem regAt_winCell {i : Nat} (hi : i < 256) (w : Win) : regAt (w.offset i) = .winCell w i := by
  cases w
  case a =>
    change regAt (0x0400 + 4 * i) = _
    simp (disch := omega) only [regAt, if_neg, if_pos]
    exact congrArg (Reg.winCell .a) (by omega)
  case b =>
    change regAt (0x0800 + 4 * i) = _
    simp (disch := omega) only [regAt, if_neg, if_pos]
    exact congrArg (Reg.winCell .b) (by omega)

theorem regAt_rCell {i : Nat} (hi : i < 256) : regAt (0x0C00 + 4 * i) = .rCell i := by
  simp (disch := omega) only [regAt, if_neg, if_pos]
  exact congrArg Reg.rCell (by omega)

theorem regAt_bbByte {i : Nat} (hi : i < 1024) : regAt (0x1000 + 4 * i) = .bbByte i := by
  simp (disch := omega) only [regAt, if_neg, if_pos]
  exact congrArg Reg.bbByte (by omega)

theorem regAt_cwByte {i : Nat} (hi : i < 4096) : regAt (0x4000 + 4 * i) = .cwByte i := by
  simp (disch := omega) only [regAt, if_neg]
  exact congrArg Reg.cwByte (by omega)

/-- The gaps of the map hold no register. -/
theorem regAt_unmapped {a : Nat}
    (h : (0x070 ≤ a ∧ a < 0x080) ∨ (0x0C0 ≤ a ∧ a < 0x0400) ∨ (0x2000 ≤ a ∧ a < 0x4000)) : regAt a = .unmapped := by
  rcases h with ⟨hlo, hhi⟩ | ⟨hlo, hhi⟩ | ⟨hlo, hhi⟩
  · interval_cases a <;> rfl
  · simp (disch := omega) only [regAt, if_neg, if_pos]
  · simp (disch := omega) only [regAt, if_neg, if_pos]

theorem registerMap : RegisterMap := by
  unfold RegisterMap
  refine ⟨rfl, rfl, rfl, rfl, rfl, rfl, rfl, rfl, rfl, rfl, rfl, rfl, rfl, rfl, rfl, rfl, rfl, rfl, rfl, rfl, rfl, rfl, rfl, rfl,
    rfl, rfl, rfl, rfl, ?_, ?_, ?_, ?_, ?_⟩
  · exact fun m hm => ⟨regAt_trialP123 hm, regAt_trialDark hm⟩
  · exact fun i hi => ⟨regAt_winCell hi .a, regAt_winCell hi .b, regAt_rCell hi⟩
  · exact fun i hi => regAt_bbByte hi
  · exact fun i hi => regAt_cwByte hi
  · exact fun a ha => regAt_unmapped ha

/-! ## The step of an access to the port -/

section
variable {s : State} {a : Offset} {rest : List HostEvent}

/-- The step of an aligned word read. -/
theorem step_read (h : s.events = .read .word a :: rest) (ha : a.toNat % 4 = 0) :
    step s = tick exec ((s.withEvents rest).busRead a.toNat) :=
  step_event h (State.hostEvent_read_word _ ha)

/-- The step of an aligned word write. -/
theorem step_write {v : Word} (h : s.events = .write .word a v :: rest) (ha : a.toNat % 4 = 0) :
    step s = tick exec ((s.withEvents rest).busWrite a.toNat v) :=
  step_event h (State.hostEvent_write_word _ ha v)

/-- The step of an aligned word write that leaves the block idle. -/
theorem step_write_idle {v : Word} (h : s.events = .write .word a v :: rest) (ha : a.toNat % 4 = 0)
    (hidle : ((s.withEvents rest).busWrite a.toNat v).running = none) :
    step s = .next ((s.withEvents rest).busWrite a.toNat v) := by
  rw [step_write h ha, tick_of_idle hidle]

/-- An access the port refuses refuses the step (R63). -/
theorem step_refused {size : AccessSize} {e : HostEvent} {r : Refusal} (h : s.events = e :: rest)
    (he : e = .read size a ∨ ∃ v, e = .write size a v) (hr : accessRefusal? size a.toNat = some r) :
    step s = .refused r := by
  unfold step cycle
  rcases he with rfl | ⟨v, rfl⟩ <;> simp only [h, State.hostEvent, hr]

end

/-- With a command in progress, the end of the cycle is as `CycleEnds` says. -/
theorem tick_cycleEnds {c : Running} {u : State} (h : u.running = some c) : CycleEnds c u (tick exec u) := by
  unfold tick finish
  simp only [h]
  refine ⟨fun hleft => ?_, fun hleft => ⟨fun i hi => ?_, fun e he => ?_⟩⟩
  · rw [if_neg (Nat.not_le.2 hleft)]
  · rw [if_pos hleft, hi]
  · rw [if_pos hleft, he]
    rfl

/-- A read that returns the register: the block is idle, or the register reads as defined while busy (R67, R321). -/
theorem State.busRead_eq_regValue {s : State} {a : Nat} (h : s.running = none ∨ (regAt a).readableBusy = true) :
    s.busRead a = { s with rdata := s.regValue (regAt a) } := by
  unfold State.busRead State.busy
  rw [if_neg]
  rcases h with h | h <;> simp [h]

/-- Any read changes the word last read and the count of free reads at most (R321). -/
theorem State.busRead_eq (s : State) (a : Nat) : ∃ x n, s.busRead a = { s with rdata := x, free := n } := by
  unfold State.busRead
  split
  · exact ⟨_, _, rfl⟩
  · exact ⟨_, s.free, rfl⟩

/-- What a register holds does not depend on the events to come. -/
@[simp] theorem State.withEvents_regValue (s : State) (rest : List HostEvent) (r : Reg) :
    (s.withEvents rest).regValue r = s.regValue r := by
  cases r <;> rfl

/-- A read of a busy block is one of the command's cycles. -/
theorem step_read_busy {s : State} {a : Offset} {rest : List HostEvent} {c : Running} {x : Word} {n : Nat}
    (hc : s.running = some c) (h : s.events = .read .word a :: rest) (ha : a.toNat % 4 = 0)
    (hread : (s.withEvents rest).busRead a.toNat = { s with events := rest, rdata := x, free := n }) :
    CycleEnds c { s with events := rest, rdata := x, free := n } (step s) := by
  rw [step_read h ha, hread]
  exact tick_cycleEnds hc

/-- Settles O58: the map and its values by computation, and each read by what the port does with it. -/
theorem readsHaveNoSideEffect : Obligations.ReadsHaveNoSideEffect := by
  refine ⟨registerMap, registerValues, ?_, ?_⟩
  · intro s size a rest e h he
    refine ⟨fun hsize => step_refused h he ?_, fun hsize halign => step_refused h he ?_⟩
    · cases size
      case word => exact absurd rfl hsize
      case half => rfl
      case byte => rfl
    · rw [hsize, accessRefusal?, if_neg halign]
  · intro s a rest h ha
    refine ⟨fun hidle => ?_, fun c hc => ⟨fun hreg => ?_, ?_⟩⟩
    · rw [step_read h ha, State.busRead_eq_regValue (s := s.withEvents rest) (.inl hidle), State.withEvents_regValue]
      exact tick_of_idle hidle
    · refine step_read_busy hc h ha ?_
      rw [State.busRead_eq_regValue (.inr (by rcases hreg with hreg | hreg | hreg | hreg <;> rw [hreg] <;> rfl)),
        State.withEvents_regValue]
      rfl
    · obtain ⟨x, n, hread⟩ := (s.withEvents rest).busRead_eq a.toNat
      exact ⟨x, n, step_read_busy hc h ha hread⟩

end Sys2Proof.Machine

namespace Sys2Proof.Machine

/-! # The host's writes to an idle block, resets and the acceptance of a command (R23 to R50, R282, R310) -/

/-- The low byte of a register value, as a truncation (R13). -/
theorem lowByte_eq_setWidth (v : Word) : lowByte v = v.setWidth 8 := by
  apply BitVec.eq_of_toNat_eq
  rw [lowByte, BitVec.toNat_ofNat, BitVec.toNat_setWidth]

/-- A bit of a register value, as a bit of the word (R13). -/
theorem wordBit_eq_getLsbD (v : Word) (k : Nat) : wordBit v k = v.getLsbD k := rfl

/-- A register of four reads as the value written to it, and the others as before. -/
theorem Quad.get_set (q : Quad) (i j : Fin 4) (v : Word) : (q.set i v).get j = if j = i then v else q.get j := by
  fin_cases i <;> fin_cases j <;> rfl

section
variable {s : State} {a : Nat}

/-- A write of a register that takes no write, or of no register, does nothing (R62). -/
theorem State.busWrite_of_readOnly (v : Word) (hcmd : regAt a ≠ .cmd) (harg : ∀ i, regAt a ≠ .arg i)
    (hfifo : regAt a ≠ .segFifo) (hlen : ∀ w, regAt a ≠ .winLen w) (hcell : ∀ w i, regAt a ≠ .winCell w i)
    (hstatus : regAt a ≠ .status) (hctrl : regAt a ≠ .ctrl) : s.busWrite a v = s := by
  unfold State.busWrite
  split
  · exact absurd ‹_› hctrl
  · exact absurd ‹_› hstatus
  · exact absurd ‹_› hcmd
  · exact absurd ‹_› (harg _)
  · exact absurd ‹_› hfifo
  · exact absurd ‹_› (hlen _)
  · exact absurd ‹_› (hcell _ _)
  · rfl

theorem State.busWrite_ctrl (v : Word) (h : regAt a = .ctrl) : s.busWrite a v = s.writeCtrl v := by
  simp only [State.busWrite, h]

theorem State.busWrite_status (v : Word) (h : regAt a = .status) : s.busWrite a v = s.writeStatus v := by
  simp only [State.busWrite, h]

variable (hidle : s.running = none)
include hidle

theorem State.busy_of_idle : s.busy = false := by rw [State.busy, hidle]; rfl

theorem State.busWrite_cmd (v : Word) (h : regAt a = .cmd) : s.busWrite a v = s.accept v := by
  simp [State.busWrite, h, State.busy_of_idle hidle]

theorem State.busWrite_arg {i : Fin 4} (v : Word) (h : regAt a = .arg i) :
    s.busWrite a v = { s with arg := s.arg.set i v } := by
  simp [State.busWrite, h, State.busy_of_idle hidle]

theorem State.busWrite_segFifo (v : Word) (h : regAt a = .segFifo) : s.busWrite a v = s.pushByte v := by
  simp [State.busWrite, h, State.busy_of_idle hidle]

theorem State.busWrite_winLen {w : Win} (v : Word) (h : regAt a = .winLen w) : s.busWrite a v = s.writeLen w v := by
  simp [State.busWrite, h, State.busy_of_idle hidle]

theorem State.busWrite_winCell {w : Win} {i : Nat} (v : Word) (h : regAt a = .winCell w i) :
    s.busWrite a v = s.setCell (w.offset i) (lowByte v) := by
  simp [State.busWrite, h, State.busy_of_idle hidle]

end

/-- A write of a window's length within the window writes that length alone (R43). -/
theorem State.setWinLen_frame (s : State) (w : Win) (n : Nat) :
    (s.setWinLen w n).winLen w = n ∧ (∀ w', w' ≠ w → (s.setWinLen w n).winLen w' = s.winLen w') ∧
    { s.setWinLen w n with aLen := s.aLen, bLen := s.bLen } = s := by
  cases w
  case a => exact ⟨rfl, fun w' hw => by cases w' <;> [exact absurd rfl hw; rfl], rfl⟩
  case b => exact ⟨rfl, fun w' hw => by cases w' <;> [rfl; exact absurd rfl hw], rfl⟩

/-- Settles O59: the step is the register's write, since the block stays idle. -/
theorem idleWritesReachOperands : Obligations.IdleWritesReachOperands := by
  intro s a v rest hidle hwf h ha
  have hidle' : (s.withEvents rest).running = none := hidle
  have hstep : ∀ u : State, (s.withEvents rest).busWrite a.toNat v = u → u.running = none → step s = .next u := by
    rintro u rfl hu
    exact step_write_idle h ha hu
  refine ⟨fun i hreg => ?arg, fun hreg => ?segFifo, fun w hreg => ⟨fun hv => ?tooLong, fun hv => ?winLen⟩,
    fun w i hreg => ⟨(offset_of_regAt_eq_winCell hreg ha).2, ?winCell⟩, fun hreg => ?status, fun hreg hv => ?ctrl,
    fun hcmd harg hfifo hlen hcell hstatus hctrl => ?readOnly⟩
  case arg =>
    refine ⟨s.arg.set i v, hstep _ (State.busWrite_arg hidle' v hreg) hidle, ?_, fun j hj => ?_⟩
    · rw [Quad.get_set, if_pos rfl]
    · rw [Quad.get_set, if_neg hj]
  case segFifo =>
    have hwrite := State.busWrite_segFifo hidle' v hreg
    unfold State.pushByte at hwrite
    rw [lowByte_eq_setWidth] at hwrite
    refine hstep _ hwrite ?_
    split <;> exact hidle
  case tooLong =>
    refine hstep _ ?_ hidle
    rw [State.busWrite_winLen hidle' v hreg, State.writeLen, polyMax_eq, if_neg (Nat.not_le.2 hv)]
    rfl
  case winLen =>
    obtain ⟨hsame, hother, hframe⟩ := (s.withEvents rest).setWinLen_frame w v.toNat
    refine ⟨_, hstep _ ?_ ?_, hsame, hother, hframe⟩
    · rw [State.busWrite_winLen hidle' v hreg, State.writeLen, polyMax_eq, if_pos hv]
    · rw [State.setWinLen_running, hidle']
  case winCell =>
    refine ⟨_, hstep _ (State.busWrite_winCell hidle' v hreg) hidle, ?_, fun b hb => ?_, rfl⟩
    · rw [State.cell_setCell (s.withEvents rest) hwf, if_pos rfl, lowByte_eq_setWidth]
    · rw [State.cell_setCell (s.withEvents rest) hwf, if_neg hb]
      rfl
  case status => exact hstep _ (State.busWrite_status v hreg) hidle
  case ctrl =>
    refine hstep _ ?_ hidle
    rw [State.busWrite_ctrl v hreg, State.writeCtrl, wordBit_eq_getLsbD, hv, if_neg Bool.false_ne_true]
    rfl
  case readOnly => exact hstep _ (State.busWrite_of_readOnly v hcmd harg hfifo hlen hcell hstatus hctrl) hidle

/-! ## Reset and the acceptance of a command -/

/-- Settles O57: the event's effect is the reset, after which the block is idle. -/
theorem softResetRestoresResetState : Obligations.SoftResetRestoresResetState := by
  intro s e rest h he
  have hevent : (s.withEvents rest).hostEvent e = .next (s.withEvents rest).afterReset := by
    rcases he with rfl | ⟨v, rfl, hv⟩
    · rfl
    · rw [State.hostEvent_write_word _ (by decide), State.busWrite_ctrl v rfl, State.writeCtrl, wordBit_eq_getLsbD, if_pos hv]
  rw [step_event h hevent]
  exact tick_of_idle rfl

/-- The acceptance of a command with LATENCY 1 leaves it one cycle (R282, R330). -/
theorem State.withEvents_accept (s : State) (w : Word) (rest : List HostEvent) (h : s.latencies.headD 0 = 0) :
    (s.withEvents rest).accept w = s.accepted w rest := by
  simp only [State.accept, State.withEvents, State.accepted, h]

/-- A step that takes a CMD write with LATENCY 1 ends the cycle of the accepted state. -/
theorem step_of_issues {s : State} {w : Word} {rest : List HostEvent} (h : s.issues w rest) :
    step s = finish exec w (s.accepted w rest) := by
  obtain ⟨hidle, hevents, hlatency⟩ := h
  rw [step_write hevents (by decide), State.busWrite_cmd (s := s.withEvents rest) hidle w rfl,
    State.withEvents_accept s w rest hlatency]
  rfl

/-- Settles O7: the accepted word has its one cycle, and decodes. -/
theorem stepRunsDecodedCommand : Obligations.StepRunsDecodedCommand := by
  intro s w rest i hissues hdecode
  rw [step_of_issues hissues, finish, hdecode]

/-! ## The values of the registers after a reset (R50) -/

/-- `t` is the reset state but for the host's side and the count of resets. -/
def State.IsReset (t : State) : Prop :=
  t = { State.reset with events := t.events, rdata := t.rdata, latencies := t.latencies, epoch := t.epoch, free := t.free }

theorem State.isReset_of_reset {t : State} (h : t = State.reset ∨ ∃ s : State, t = s.afterReset) : t.IsReset := by
  rcases h with rfl | ⟨s, rfl⟩ <;> rfl

/-- Every byte of the empty bit buffer is 0. -/
theorem bufByte_nil (i : Nat) : bufByte [] i = 0 := by
  apply BitVec.eq_of_getLsbD_eq
  intro k hk
  simp [bufByte_getLsbD]

/-- Settles O1: in a reset state every register is 0 but ID and SEG_CLASS, whose predicates hold of the empty STAGE. -/
theorem resetRegistersReadAsSpecified : Obligations.ResetRegistersReadAsSpecified := by
  intro t ht
  have hreset : t.IsReset := State.isReset_of_reset ht
  rw [hreset]
  refine ⟨rfl, rfl, rfl, rfl, fun r hid hclass hcell => ?_⟩
  cases r
  case id => exact absurd rfl hid
  case segClass => exact absurd rfl hclass
  case winCell w i => exact absurd rfl (hcell w i)
  case arg i => fin_cases i <;> rfl
  case res i => fin_cases i <;> rfl
  case winLen w => cases w <;> rfl
  case trialP123 m => exact congrArg word (List.getElem?_getD_replicate_default_eq 0 8 m)
  case trialDark m => exact congrArg word (List.getElem?_getD_replicate_default_eq 0 8 m)
  case rCell i => simp [State.regValue, State.reset, word]
  case cwByte i => simp [State.regValue, State.reset, word]
  case bbByte i => simp [State.regValue, State.reset, word, bufByte_nil]
  all_goals rfl

end Sys2Proof.Machine

namespace Sys2Proof

/-! # The decoder and the encoder are inverses (R64, R80 to R84) -/

/-! ## Opcodes and command words -/

@[simp] theorem opcodeOf_opcode (i : Instr) : opcodeOf (opcode i) = some i := by cases i <;> rfl

/-- The opcode map and the opcodes of commands are inverses (R83). -/
theorem opcodeOf_eq_some_iff {n : Nat} {i : Instr} : opcodeOf n = some i ↔ n = opcode i := by
  refine ⟨fun h => ?_, fun h => h ▸ opcodeOf_opcode i⟩
  unfold opcodeOf at h
  split at h <;> cases h <;> rfl

theorem opcode_lt (i : Instr) : opcode i < 256 := by cases i <;> decide

/-- A word decodes to a command exactly when its reserved field is 0 and its opcode field is the command's opcode (R80, R83). -/
theorem decodeWord_eq_ok_iff {w : Word} {i : Instr} :
    decodeWord w = .ok i ↔ w.toNat / 256 = 0 ∧ w.toNat % 256 = opcode i := by
  rw [← opcodeOf_eq_some_iff]
  unfold decodeWord rsvdField opcField
  by_cases hrsvd : w.toNat / 256 = 0
  · rw [if_neg (not_not.2 hrsvd)]
    cases opcodeOf (w.toNat % 256) <;> simp [hrsvd]
  · simp [hrsvd]

/-- A word with a reserved bit set, or whose low byte is no command's opcode, does not decode (R80, R84). -/
theorem decodeWord_eq_error {w : Word} (h : w.toNat / 256 ≠ 0 ∨ ∀ i : Instr, w.toNat % 256 ≠ opcode i) :
    ∃ e, decodeWord w = .error e := by
  cases hdecode : decodeWord w with
  | error e => exact ⟨e, rfl⟩
  | ok i =>
    obtain ⟨hrsvd, hopc⟩ := decodeWord_eq_ok_iff.1 hdecode
    rcases h with h | h
    · exact absurd hrsvd h
    · exact absurd hopc (h i)

/-- No two words decode to one command: the word is the command's encoding. -/
theorem decodeWord_eq_ok_iff_eq_encode {w : Word} {i : Instr} : decodeWord w = .ok i ↔ w = encode i := by
  have hlt := opcode_lt i
  rw [decodeWord_eq_ok_iff, encode, ← BitVec.toNat_inj, BitVec.toNat_ofNat]
  omega

/-! ## The byte lanes of a word (R64) -/

/-- The byte lanes and the word they make up determine each other. -/
theorem wordOfBytes_eq_iff {b0 b1 b2 b3 : Byte} {w : Word} :
    wordOfBytes b0 b1 b2 b3 = w ↔ [b0, b1, b2, b3] = bytesOfWord w := by
  simp only [wordOfBytes, bytesOfWord, List.cons.injEq, and_true, ← BitVec.toNat_inj, BitVec.toNat_ofNat]
  omega

/-- Decoding takes the four bytes of one word that decodes, and leaves the rest (R81). -/
theorem decode_eq_ok_iff {bs rest : List Byte} {i : Instr} :
    decode bs = .ok (i, rest) ↔
      ∃ b0 b1 b2 b3, bs = [b0, b1, b2, b3] ++ rest ∧ decodeWord (wordOfBytes b0 b1 b2 b3) = .ok i := by
  constructor
  · intro h
    unfold decode at h
    split at h
    case h_1 b0 b1 b2 b3 rest' =>
      cases hword : decodeWord (wordOfBytes b0 b1 b2 b3) with
      | error e => simp [hword] at h
      | ok j =>
        simp only [hword, Except.ok.injEq, Prod.mk.injEq] at h
        obtain ⟨rfl, rfl⟩ := h
        exact ⟨b0, b1, b2, b3, rfl, hword⟩
    case h_2 => cases h
  · rintro ⟨b0, b1, b2, b3, rfl, hword⟩
    simp [decode, hword]

/-- Settles O4: the four bytes taken are the lanes of the command's only word. -/
theorem decodeReadsExactlyEncodedCommands : Obligations.DecodeReadsExactlyEncodedCommands := by
  intro bs i rest
  constructor
  · intro h
    obtain ⟨b0, b1, b2, b3, rfl, hword⟩ := decode_eq_ok_iff.1 h
    have hlanes : [b0, b1, b2, b3] = encodeBytes i := wordOfBytes_eq_iff.1 (decodeWord_eq_ok_iff_eq_encode.1 hword)
    rw [hlanes]
  · rintro rfl
    exact decode_eq_ok_iff.2 ⟨_, _, _, _, rfl, decodeWord_eq_ok_iff_eq_encode.2 (wordOfBytes_eq_iff.2 rfl)⟩

/-- Settles O5: each word's reserved field is 0, and its opcode field is in the row of its command. -/
theorem tableWordsDecode : Obligations.TableWordsDecode := by
  unfold Obligations.TableWordsDecode
  simp only [decodeWord_eq_ok_iff]
  decide

end Sys2Proof

namespace Sys2Proof.Machine

/-! # A command word, from its write to its completion (R80, R282, R283, R330) -/

/-- Settles O6: the accepted word has its one cycle, and it decodes or it does not. -/
theorem wordIsExecutedOrEndsIllegal : Obligations.WordIsExecutedOrEndsIllegal := by
  intro s w rest hissues
  refine ⟨fun hillegal => ?_, fun i hrsvd hopc => ?_⟩
  · obtain ⟨e, hdecode⟩ := decodeWord_eq_error hillegal
    rw [step_of_issues hissues, finish, hdecode]
    rfl
  · exact stepRunsDecodedCommand s w rest i hissues (decodeWord_eq_ok_iff.2 ⟨hrsvd, hopc⟩)

/-! ## Runs -/

/-- A run may be extended by a step at its end. -/
theorem run_succ_of_run {M : Host.Core} {k : Nat} {s t : M.State} (h : M.run k s = .next t) : M.run (k + 1) s = M.step t := by
  induction k generalizing s with
  | zero =>
    obtain rfl : s = t := Host.Outcome.next.inj h
    rw [Host.Core.run]
    cases M.step s <;> rfl
  | succ k ih =>
    rw [Host.Core.run] at h ⊢
    cases hstep : M.step s with
    | next s' =>
      rw [hstep] at h
      exact ih h
    | fault r => simp [hstep] at h
    | refused r => simp [hstep] at h

/-- States with the same step have the same runs of at least one step. -/
theorem run_succ_congr {M : Host.Core} {s u : M.State} (h : M.step s = M.step u) (k : Nat) :
    M.run (k + 1) s = M.run (k + 1) u := by
  rw [Host.Core.run, h, Host.Core.run]

/-- With no event to come, a command with more than `k` cycles left is still in progress after `k` of them, and nothing but the
cycles left has changed (R330). -/
theorem run_countdown {u : State} {w : Word} {left : Nat} (hevents : u.events = []) (hrunning : u.running = some ⟨w, left⟩)
    {k : Nat} (hk : k < left) : Host.Core.run core k u = .next { u with running := some ⟨w, left - k⟩ } := by
  induction k with
  | zero =>
    rw [Nat.sub_zero, ← hrunning]
    rfl
  | succ k ih =>
    have hlast : Host.Core.run core (k + 1) u = tick exec { u with running := some ⟨w, left - k⟩ } :=
      (run_succ_of_run (ih (Nat.lt_of_succ_lt hk))).trans (step_idle hevents)
    have hleft : 1 < (Running.mk w (left - k)).left := show 1 < left - k by omega
    exact hlast.trans ((tick_cycleEnds rfl).1 hleft)

/-- With no event to come, a command with `n + 1` cycles left completes in the last of them (R283, R330). -/
theorem run_cycleEnds {u : State} {w : Word} {n : Nat} (hevents : u.events = []) (hrunning : u.running = some ⟨w, n + 1⟩) :
    CycleEnds ⟨w, 1⟩ { u with running := some ⟨w, 1⟩ } (Host.Core.run core (n + 1) u) := by
  have hcount := run_countdown hevents hrunning n.lt_succ_self
  rw [Nat.add_sub_cancel_left] at hcount
  rw [(run_succ_of_run hcount).trans (step_idle hevents)]
  exact tick_cycleEnds rfl

/-- The step that takes a write of CMD is the step of the state that has accepted the word. -/
theorem step_eq_step_accept {s : State} {w : Word} (hidle : s.running = none) (hevents : s.events = [.write .word 0x00C w]) :
    step s = step ((s.withEvents []).accept w) := by
  rw [step_write hevents (by decide), State.busWrite_cmd (s := s.withEvents []) hidle w rfl, step_idle rfl]

/-- Settles O8: the accepted state counts its `n + 1` cycles down, and the last of them completes the command. -/
theorem commandRunsAfterItsLatency : Obligations.CommandRunsAfterItsLatency := by
  intro s w n hidle hevents hlatency
  have hrunning : ((s.withEvents []).accept w).running = some ⟨w, n + 1⟩ := by
    rw [State.accept_running, ← hlatency, Nat.add_comm]
    rfl
  have hrun : ∀ k, Host.Core.run core (k + 1) s = Host.Core.run core (k + 1) ((s.withEvents []).accept w) :=
    run_succ_congr (step_eq_step_accept hidle hevents)
  obtain ⟨hcommand, hillegal⟩ := (run_cycleEnds rfl hrunning).2 le_rfl
  refine ⟨fun k hk hkn => ?_, fun i hi => ?_, fun h => ?_⟩
  · obtain ⟨k, rfl⟩ := Nat.exists_eq_add_of_le' hk
    exact (hrun k).trans (run_countdown rfl hrunning (Nat.lt_succ_of_le hkn))
  · exact (hrun n).trans (hcommand i hi)
  · obtain ⟨e, he⟩ := decodeWord_eq_error h
    exact (hrun n).trans (hillegal e he)

end Sys2Proof.Machine

namespace Sys2Proof.Machine

/-! # GF(256): the tables, the laws of the product, and GF_EXP, GF_LOG and GF_MUL (R100 to R107) -/

/-! ## EXP and LOG -/

theorem expTable_length : expTable.length = 256 := by decide +kernel

/-- The first entries of EXP are the powers of 2 that a byte holds (R100). -/
theorem expTable_powers : ∀ i < 8, expTable.getD i 0 = BitVec.ofNat 8 (1 <<< i) := by decide +kernel

/-- Every later entry of EXP is the recurrence of R100 on the entries before it. -/
theorem expTable_recurrence : ∀ i < 256, 8 ≤ i →
    expTable.getD i 0 = expTable.getD (i - 4) 0 ^^^ expTable.getD (i - 5) 0 ^^^ expTable.getD (i - 6) 0 ^^^
      expTable.getD (i - 8) 0 := by decide +kernel

/-- LOG undoes EXP on the exponents below 255 (R100). -/
theorem logOf_expTable : ∀ i < 255, logOf (expTable.getD i 0).toNat = i := by decide +kernel

/-- No entry of EXP is 0 (R100). -/
theorem expTable_ne_zero : ∀ i < 255, expTable.getD i 0 ≠ 0 := by decide +kernel

/-- Settles O16: the tables are literals, so each step of the construction is a finite check on them. -/
theorem expLogTablesAreConstructed : Obligations.ExpLogTablesAreConstructed :=
  ⟨expTable_length, expTable_powers, fun i h8 hi => expTable_recurrence i hi h8, logOf_expTable⟩

/-! ## Exponents and logarithms -/

/-- An exponent's index into EXP (R101). -/
theorem toNat_emod_lt (n : Int) : (n % 255).toNat < 255 := by omega

theorem gexp_natCast (n : Nat) : gexp n = expTable.getD (n % 255) 0 := rfl

/-- The powers of α repeat with period 255 (R101). -/
@[simp] theorem gexp_emod (n : Int) : gexp (n % 255) = gexp n := by rw [gexp, Int.emod_emod, gexp]

@[simp] theorem gexp_ne_zero (n : Int) : gexp n ≠ 0 := expTable_ne_zero _ (toNat_emod_lt n)

/-- The logarithm of a power is its exponent, modulo 255 (R107). -/
@[simp] theorem glog_gexp (n : Int) : glog (gexp n) = n % 255 := by
  rw [glog, gexp, logOf_expTable _ (toNat_emod_lt n)]
  omega

/-- The logarithm of a field element but 0 is below 255 (R102). -/
theorem logOf_lt {c : Byte} (hc : c ≠ 0) : logOf c.toNat < 255 := by
  have h : glog c = glog c % 255 := by rw [← glog_gexp, gexp_glog hc]
  rw [glog] at h
  omega

/-- EXP undoes LOG on every field element but 0 (R102). -/
theorem expTable_logOf {c : Byte} (hc : c ≠ 0) : expTable.getD (logOf c.toNat) 0 = c := by
  have h := gexp_glog hc
  rwa [glog, gexp_natCast, Nat.mod_eq_of_lt (logOf_lt hc)] at h

/-- A field element is 0 or a power of α (R100). -/
theorem eq_zero_or_eq_gexp (a : Byte) : a = 0 ∨ ∃ n : Nat, a = gexp n := by
  by_cases ha : a = 0
  · exact .inl ha
  · exact .inr ⟨logOf a.toNat, (gexp_glog ha).symm⟩

/-! ## The laws of the product -/

@[simp] theorem zero_gmul (a : Byte) : gmul 0 a = 0 := if_pos (.inl rfl)

@[simp] theorem gmul_zero (a : Byte) : gmul a 0 = 0 := if_pos (.inr rfl)

theorem gmul_comm (a b : Byte) : gmul a b = gmul b a := by
  simp only [gmul, or_comm, add_comm]

/-- The product of powers adds the exponents (R103). -/
theorem gexp_add (i j : Int) : gexp (i + j) = gmul (gexp i) (gexp j) := by
  have hne : ¬ (gexp i = 0 ∨ gexp j = 0) := not_or.2 ⟨gexp_ne_zero i, gexp_ne_zero j⟩
  rw [gmul, if_neg hne, glog_gexp, glog_gexp, ← gexp_emod (i % 255 + j % 255), ← Int.add_emod, gexp_emod]

/-- The product of entries of EXP is the entry at the sum of their indices, modulo 255 (R103). -/
theorem gmul_expTable {i j : Nat} (hi : i < 255) (hj : j < 255) :
    gmul (expTable.getD i 0) (expTable.getD j 0) = expTable.getD ((i + j) % 255) 0 := by
  have h := gexp_add i j
  rw [← Nat.cast_add, gexp_natCast, gexp_natCast, gexp_natCast, Nat.mod_eq_of_lt hi, Nat.mod_eq_of_lt hj] at h
  exact h.symm

@[simp] theorem one_gmul (a : Byte) : gmul 1 a = a := by
  rcases eq_zero_or_eq_gexp a with rfl | ⟨n, rfl⟩
  · exact gmul_zero 1
  · calc gmul 1 (gexp n) = gexp (0 + n) := (gexp_add 0 n).symm
      _ = gexp n := by rw [zero_add]

theorem gmul_assoc (a b c : Byte) : gmul (gmul a b) c = gmul a (gmul b c) := by
  rcases eq_zero_or_eq_gexp a with rfl | ⟨i, rfl⟩
  · simp only [zero_gmul]
  rcases eq_zero_or_eq_gexp b with rfl | ⟨j, rfl⟩
  · simp only [zero_gmul, gmul_zero]
  rcases eq_zero_or_eq_gexp c with rfl | ⟨k, rfl⟩
  · simp only [gmul_zero]
  · simp only [← gexp_add, add_assoc]

/-- The inverse of a power is the power of the opposite exponent (R107). -/
theorem gmul_inverse {a : Byte} (ha : a ≠ 0) : gmul a (gexp (255 - glog a)) = 1 := by
  calc gmul a (gexp (255 - glog a)) = gmul (gexp (glog a)) (gexp (255 - glog a)) := by rw [gexp_glog ha]
    _ = gexp 255 := by rw [← gexp_add, add_sub_cancel]
    _ = 1 := rfl

/-! ## Distribution over XOR: the product with α is a shift and a reduction, and every other factor is a power of α -/

/-- The product with α = 2 modulo 0x11D: a shift, and the reduction of what it carries out (the remark after R100). -/
def timesAlpha (b : Byte) : Byte := b <<< 1 ^^^ if b.msb then 0x1D else 0

theorem timesAlpha_xor (b c : Byte) : timesAlpha (b ^^^ c) = timesAlpha b ^^^ timesAlpha c := by
  have hreduction : ∀ x y : Bool,
      (if x ^^ y then 0x1D else 0 : Byte) = (if x then 0x1D else 0) ^^^ (if y then 0x1D else 0) := by decide
  rw [timesAlpha, timesAlpha, timesAlpha, BitVec.shiftLeft_xor_distrib, BitVec.msb_xor, hreduction]
  ac_rfl

/-- The model's product with α, through the logarithms, is the shift and the reduction. -/
theorem gmul_two (b : Byte) : gmul 2 b = timesAlpha b := by
  have h : ∀ n < 256, gmul 2 (BitVec.ofNat 8 n) = timesAlpha (BitVec.ofNat 8 n) := by decide +kernel
  simpa using h b.toNat b.isLt

theorem gmul_gexp_xor (n : Nat) (b c : Byte) : gmul (gexp n) (b ^^^ c) = gmul (gexp n) b ^^^ gmul (gexp n) c := by
  induction n generalizing b c with
  | zero =>
    have hone : gexp (0 : Nat) = 1 := rfl
    simp only [hone, one_gmul]
  | succ n ih =>
    have hsucc (x : Byte) : gmul (gexp (n + 1 : Nat)) x = gmul (gexp n) (timesAlpha x) := by
      rw [Nat.cast_succ, gexp_add, gmul_assoc, ← gmul_two]
      rfl
    rw [hsucc, hsucc, hsucc, timesAlpha_xor, ih]

theorem gmul_xor (a b c : Byte) : gmul a (b ^^^ c) = gmul a b ^^^ gmul a c := by
  rcases eq_zero_or_eq_gexp a with rfl | ⟨n, rfl⟩
  · simp only [zero_gmul, BitVec.xor_self]
    rfl
  · exact gmul_gexp_xor n b c

/-- Settles O17: every byte but 0 is a power of α, on which the product adds exponents; XOR is kept by α, and so by its powers. -/
theorem gfProductLaws : Obligations.GfProductLaws :=
  ⟨gmul_comm, gmul_assoc, gmul_xor, one_gmul, zero_gmul, fun _ ha => gmul_inverse ha, gexp_add⟩

/-! ## The commands -/

/-- A command that ends well on the state before it answers (R283). -/
theorem answers_of_succeed {i : Instr} {s : State} {q : Quad} (h : exec i s = succeed s q) : Answers i s q := h

/-- A command that raises an error ends with it (R284). -/
theorem endsWith_of_raise {i : Instr} {s : State} {e : ErrCode} (h : exec i s = raise e s) : EndsWith i s e := h

/-- An operand of at most 255 keeps its value as a byte (R82). -/
theorem toNat_setWidth_byte {w : Word} (h : w.toNat ≤ 255) : (w.setWidth 8).toNat = w.toNat := by
  rw [BitVec.toNat_setWidth]
  exact Nat.mod_eq_of_lt (Nat.lt_succ_of_le h)

/-- An operand of at most 255 is a byte, zero-extended (R82). -/
theorem eq_setWidth_byte {w : Word} (h : w.toNat ≤ 255) : w = (w.setWidth 8).setWidth 32 := by
  apply BitVec.eq_of_toNat_eq
  rw [BitVec.toNat_setWidth_of_le (by decide), toNat_setWidth_byte h]

theorem byteWord_eq_setWidth (b : Byte) : byteWord b = b.setWidth 32 := word_byte_eq_setWidth b

/-- GF_EXP always ends well, with the power of its signed operand (R104). -/
theorem execGfExp_eq (s : State) : execGfExp s = succeed s (Quad.one ((gexp s.arg0Signed).setWidth 32)) := by
  rw [execGfExp, byteWord_eq_setWidth]

/-- Settles O13: the command has one end, and its result is EXP at the signed operand modulo 255. -/
theorem gfExpGivesPower : Obligations.GfExpGivesPower := fun s => answers_of_succeed (execGfExp_eq s)

/-- GF_LOG of an operand in 1..255 ends well with its logarithm (R105). -/
theorem execGfLog_of_inRange {s : State} (h : 1 ≤ s.arg0 ∧ s.arg0 ≤ 255) :
    execGfLog s = succeed s (Quad.one (word (logOf s.arg0))) := by
  rw [execGfLog, glog?, if_pos h]

/-- GF_LOG of any other operand is DOMAIN (R105). -/
theorem execGfLog_of_not_inRange {s : State} (h : ¬ (1 ≤ s.arg0 ∧ s.arg0 ≤ 255)) : execGfLog s = raise .domain s := by
  rw [execGfLog, glog?, if_neg h]

/-- Settles O14: the exponent is the operand's logarithm, which EXP undoes. -/
theorem gfLogInvertsExp : Obligations.GfLogInvertsExp := by
  intro s
  refine ⟨fun hlow hhigh => ?_, fun h => endsWith_of_raise (execGfLog_of_not_inRange (s := s) ?_)⟩
  · have hbyte := toNat_setWidth_byte hhigh
    have hne : s.arg.w0.setWidth 8 ≠ 0 := by
      intro h0
      rw [← hbyte, h0] at hlow
      exact absurd hlow (by decide)
    refine ⟨_, Nat.le_of_lt_succ (logOf_lt hne), expTable_logOf hne, ?_⟩
    rw [hbyte]
    exact answers_of_succeed (execGfLog_of_inRange ⟨hlow, hhigh⟩)
  · rw [State.arg0]
    omega

/-- GF_MUL with an operand above 255 is DOMAIN (R106). -/
theorem execGfMul_of_tooLarge {s : State} (h : 255 < s.arg0 ∨ 255 < s.arg1) : execGfMul s = raise .domain s := if_pos h

/-- GF_MUL of two bytes ends well with their product (R106). -/
theorem execGfMul_of_bytes {s : State} {a b : Byte} (ha : s.arg.w0 = a.setWidth 32) (hb : s.arg.w1 = b.setWidth 32) :
    execGfMul s = succeed s (Quad.one ((gmul a b).setWidth 32)) := by
  have h0 : s.arg0 = a.toNat := by rw [State.arg0, ha]; exact BitVec.toNat_setWidth_of_le (by decide)
  have h1 : s.arg1 = b.toNat := by rw [State.arg1, hb]; exact BitVec.toNat_setWidth_of_le (by decide)
  rw [execGfMul, if_neg (by omega), h0, h1, BitVec.ofNat_toNat, BitVec.ofNat_toNat, BitVec.setWidth_eq, BitVec.setWidth_eq,
    byteWord_eq_setWidth]

/-- Settles O15: an operand of 8 bits is a byte; a product with 0 is 0, and one of powers adds the exponents. -/
theorem gfMulAddsExponents : Obligations.GfMulAddsExponents := by
  intro s
  refine ⟨fun h => endsWith_of_raise (execGfMul_of_tooLarge h), fun ha hb hzero => ?_, fun i j hi hj ha hb => ?_⟩
  · have hprod : gmul (s.arg.w0.setWidth 8) (s.arg.w1.setWidth 8) = 0 := by
      rcases hzero with h0 | h0 <;> rw [h0]
      · exact zero_gmul _
      · exact gmul_zero _
    have h := execGfMul_of_bytes (eq_setWidth_byte ha) (eq_setWidth_byte hb)
    rw [hprod] at h
    exact answers_of_succeed h
  · rw [← gmul_expTable hi hj]
    exact answers_of_succeed (execGfMul_of_bytes ha hb)

end Sys2Proof.Machine

namespace Sys2Proof.Machine

/-! # Polynomials as arguments of XOR-linear forms (R15, R110 to R114)

A polynomial's value at a field element and its coefficient of `x^k` are both XOR-sums of one contribution for each
coefficient. What the product and the remainder do to every such form is proved once; the facts about coefficients and
those about values are two uses of it. -/

theorem xor_gmul (a b c : Byte) : gmul (a ^^^ b) c = gmul a c ^^^ gmul b c := by
  rw [gmul_comm, gmul_xor, gmul_comm c, gmul_comm c]

/-! ## Forms -/

/-- An XOR-linear form on polynomials: `weight j c` is what the coefficient `c` of `x^j` contributes. -/
structure XorForm where
  weight : Nat → Byte → Byte
  weight_xor : ∀ j c d, weight j (c ^^^ d) = weight j c ^^^ weight j d

namespace XorForm

/-- The form's value at a polynomial, highest order first: the XOR of the contributions of its coefficients. -/
def value (φ : XorForm) : Poly → Byte
  | [] => 0
  | c :: cs => φ.weight cs.length c ^^^ φ.value cs

variable (φ : XorForm)

@[simp] theorem value_nil : φ.value [] = 0 := rfl

theorem value_cons (c : Byte) (cs : Poly) : φ.value (c :: cs) = φ.weight cs.length c ^^^ φ.value cs := rfl

@[simp] theorem weight_zero (j : Nat) : φ.weight j 0 = 0 := by
  have h := φ.weight_xor j 0 0
  rwa [BitVec.xor_self, BitVec.xor_self] at h

@[simp] theorem value_zero_cons (cs : Poly) : φ.value (0 :: cs) = φ.value cs := by
  rw [value_cons, weight_zero]
  exact BitVec.zero_xor

/-- Leading zeros contribute nothing (R111). -/
@[simp] theorem value_zeros_append (n : Nat) (p : Poly) : φ.value (zeros n ++ p) = φ.value p := by
  induction n with
  | zero => rfl
  | succ n ih => exact (φ.value_zero_cons _).trans ih

@[simp] theorem value_zeros (n : Nat) : φ.value (zeros n) = 0 := by
  simpa using φ.value_zeros_append n []

/-- Construct only drops leading zeros of the polynomial it shifts (R111). -/
theorem value_construct (p : Poly) (n : Nat) : φ.value (construct p n) = φ.value (p ++ zeros n) := by
  induction p with
  | nil => rfl
  | cons c cs ih =>
    by_cases hc : c = 0
    · rw [hc, construct, strip_zero_cons, List.cons_append, value_zero_cons]
      exact ih
    · rw [construct, strip_cons_of_ne hc]

@[simp] theorem value_strip (p : Poly) : φ.value (strip p) = φ.value p := by
  simpa [zeros] using φ.value_construct p 0

/-- The coefficients of `q` are those below `x^(q.length)`. -/
theorem value_append (p q : Poly) : φ.value (p ++ q) = φ.value (p ++ zeros q.length) ^^^ φ.value q := by
  induction p with
  | nil => simp
  | cons c cs ih =>
    simp only [List.cons_append, value_cons, List.length_append, zeros_length, ih, BitVec.xor_assoc]

/-- Forms whose weights differ by a factor have values that differ by it. -/
theorem value_eq_gmul {φ ψ : XorForm} {a : Byte} (h : ∀ j c, φ.weight j c = gmul a (ψ.weight j c)) (p : Poly) :
    φ.value p = gmul a (ψ.value p) := by
  induction p with
  | nil => exact (gmul_zero a).symm
  | cons c cs ih => rw [value_cons, value_cons, h, ih, gmul_xor]

/-- A run over the coefficients, highest order first, adds the form's value to what it starts from. -/
theorem xor_value_eq_foldl (p : Poly) (z : Byte) :
    z ^^^ φ.value p =
      (List.range p.length).foldl (fun acc i => acc ^^^ φ.weight (p.length - 1 - i) (p.getD i 0)) z := by
  induction p generalizing z with
  | nil => exact BitVec.xor_zero
  | cons c cs ih =>
    rw [value_cons, ← BitVec.xor_assoc, ih, List.length_cons, List.range_succ_eq_map, List.foldl_cons, List.foldl_map]
    simp [Nat.sub_sub, Nat.add_comm]

theorem value_eq_foldl (p : Poly) :
    φ.value p = (List.range p.length).foldl (fun acc i => acc ^^^ φ.weight (p.length - 1 - i) (p.getD i 0)) 0 :=
  BitVec.zero_xor.symm.trans (φ.xor_value_eq_foldl p 0)

/-! ## The form at a product -/

/-- The form `b ↦ φ(c·x^m·b)`. -/
def timesTerm (c : Byte) (m : Nat) : XorForm where
  weight j d := φ.weight (m + j) (gmul c d)
  weight_xor j d e := by rw [gmul_xor, φ.weight_xor]

theorem timesTerm_weight (c : Byte) (m j : Nat) (d : Byte) :
    (φ.timesTerm c m).weight j d = φ.weight (m + j) (gmul c d) := rfl

theorem timesTerm_value_xor (c d : Byte) (m : Nat) (b : Poly) :
    (φ.timesTerm (c ^^^ d) m).value b = (φ.timesTerm c m).value b ^^^ (φ.timesTerm d m).value b := by
  induction b with
  | nil => simp
  | cons e es ih =>
    simp only [value_cons, timesTerm_weight, xor_gmul, φ.weight_xor, ih]
    ac_rfl

/-- The form `a ↦ φ(a·b)`. -/
def times (b : Poly) : XorForm where
  weight j c := (φ.timesTerm c j).value b
  weight_xor j c d := φ.timesTerm_value_xor c d j b

theorem times_weight (b : Poly) (j : Nat) (c : Byte) : (φ.times b).weight j c = (φ.timesTerm c j).value b := rfl

@[simp] theorem times_nil_value (a : Poly) : (φ.times []).value a = 0 := by
  rw [value_eq_gmul (φ := φ.times []) (ψ := φ) (a := 0) (fun j c => (zero_gmul _).symm), zero_gmul]

@[simp] theorem times_strip (b : Poly) : φ.times (strip b) = φ.times b := by
  simp only [times, value_strip]

/-- A write of one coefficient adds its contribution (R112). -/
theorem value_xorAt {num : Poly} {k : Nat} (hk : k < num.length) (c : Byte) :
    φ.value (xorAt num k c) = φ.value num ^^^ φ.weight (num.length - 1 - k) c := by
  induction num generalizing k with
  | nil => simp at hk
  | cons n ns ih =>
    cases k with
    | zero =>
      simp only [xorAt, List.set_cons_zero, List.getD_cons_zero, value_cons, φ.weight_xor, List.length_cons,
        Nat.add_sub_cancel, Nat.sub_zero]
      ac_rfl
    | succ k =>
      have hx : xorAt (n :: ns) (k + 1) c = n :: xorAt ns k c := by simp [xorAt]
      have hlen : (n :: ns).length - 1 - (k + 1) = ns.length - 1 - k := by simp only [List.length_cons]; omega
      rw [hx, hlen, value_cons, value_cons, xorAt_length, ih (Nat.lt_of_succ_lt_succ hk), BitVec.xor_assoc]

/-- Row `k` of the product adds the multiple of `b` by one term (R112). -/
theorem value_pmulRow (ai : Byte) (b : Poly) {num : Poly} {k m : Nat} (h : k + b.length + m = num.length) :
    φ.value (pmulRow ai num k b) = φ.value num ^^^ (φ.timesTerm ai m).value b := by
  induction b generalizing num k with
  | nil => exact BitVec.xor_zero.symm
  | cons bj bs ih =>
    simp only [List.length_cons] at h
    rw [pmulRow, ih (by rw [xorAt_length]; omega), value_xorAt _ (by omega), value_cons, timesTerm_weight,
      show num.length - 1 - k = m + bs.length by omega, BitVec.xor_assoc]

/-- The rows from `i` on add the rest of the product (R112). -/
theorem value_pmulRows (a b : Poly) {num : Poly} {i : Nat} (h : i + a.length + b.length = num.length + 1) :
    φ.value (pmulRows b num i a) = φ.value num ^^^ (φ.times b).value a := by
  induction a generalizing num i with
  | nil => exact BitVec.xor_zero.symm
  | cons ai as ih =>
    simp only [List.length_cons] at h
    rw [pmulRows, ih (by rw [pmulRow_length]; omega), φ.value_pmulRow ai b (m := as.length) (by omega), value_cons,
      times_weight, BitVec.xor_assoc]

/-- The product's value at any form, its operands stripped or not (R112). -/
theorem value_pmul (a b : Poly) : φ.value (pmul a b) = (φ.times b).value a := by
  rw [← value_strip (φ.times b), ← φ.times_strip b]
  simp only [pmul, construct_zero]
  split
  · next h =>
    rcases h with ha | hb
    · rw [ha]; rfl
    · rw [hb, times_nil_value, value_nil]
  · next h =>
    obtain ⟨ha, hb⟩ := not_or.1 h
    have hal := List.length_pos_iff.2 ha
    rw [value_strip, value_pmulRows _ _ _ (by rw [zeros_length]; omega), value_zeros]
    exact BitVec.zero_xor

end XorForm
end Sys2Proof.Machine

namespace Sys2Proof.Machine

/-! # Coefficients of products, and values of products -/

/-! ## The coefficient of `x^k` -/

/-- The coefficient of `x^k` (R15). -/
def coeffForm (k : Nat) : XorForm where
  weight j c := if j = k then c else 0
  weight_xor j c d := by split <;> simp

theorem polyCoeff_cons (c : Byte) (cs : Poly) (k : Nat) :
    polyCoeff (c :: cs) k = if k = cs.length then c else polyCoeff cs k := by
  unfold polyCoeff
  rw [List.reverse_cons]
  rcases lt_trichotomy k cs.length with h | rfl | h
  · rw [if_neg h.ne, List.getD_append _ _ _ _ (by simpa using h)]
  · rw [if_pos rfl, List.getD_append_right _ _ _ _ (by simp)]
    simp
  · rw [if_neg h.ne', List.getD_eq_default _ _ (by simpa using h), List.getD_eq_default _ _ (by simpa using h.le)]

theorem polyCoeff_eq_zero {p : Poly} {k : Nat} (h : p.length ≤ k) : polyCoeff p k = 0 :=
  List.getD_eq_default _ _ (by simpa using h)

/-- Coefficients counted from the lowest and from the highest order (R15, R110). -/
theorem polyCoeff_eq_getD {p : Poly} {k : Nat} (h : k < p.length) : polyCoeff p k = p.getD (p.length - 1 - k) 0 := by
  rw [polyCoeff, List.getD_reverse _ h]

@[simp] theorem coeffForm_value (k : Nat) (p : Poly) : (coeffForm k).value p = polyCoeff p k := by
  induction p with
  | nil => rfl
  | cons c cs ih =>
    rw [XorForm.value_cons, ih, polyCoeff_cons]
    by_cases h : cs.length = k
    · rw [if_pos h.symm, polyCoeff_eq_zero h.le]
      simp [coeffForm, h]
    · rw [if_neg (Ne.symm h)]
      simp [coeffForm, h]

/-- The coefficient of `x^k` of `c·x^j·b` (R112). -/
theorem coeffForm_timesTerm_value (k j : Nat) (c : Byte) (b : Poly) :
    ((coeffForm k).timesTerm c j).value b = if j ≤ k then gmul c (polyCoeff b (k - j)) else 0 := by
  split
  · next h =>
    rw [← coeffForm_value]
    refine XorForm.value_eq_gmul (fun i d => ?_) b
    have hi : j + i = k ↔ i = k - j := by omega
    simp only [XorForm.timesTerm_weight, coeffForm, hi]
    split
    · rfl
    · exact (gmul_zero c).symm
  · next h =>
    refine (XorForm.value_eq_gmul (ψ := coeffForm k) (a := 0) (fun i d => ?_) b).trans (zero_gmul _)
    rw [zero_gmul]
    exact if_neg (by omega)

/-- A product with the zero polynomial is empty (R112). -/
theorem pmul_eq_nil {a b : Poly} (h : strip a = [] ∨ strip b = []) : pmul a b = [] := by
  simp only [pmul, construct_zero, if_pos h]

/-- The product strips its operands first (R112). -/
@[simp] theorem pmul_strip_strip (a b : Poly) : pmul (strip a) (strip b) = pmul a b := by
  simp only [pmul, construct_zero, strip_strip]

theorem gmul_ne_zero {a b : Byte} (ha : a ≠ 0) (hb : b ≠ 0) : gmul a b ≠ 0 := by
  rw [gmul, if_neg (not_or.2 ⟨ha, hb⟩)]
  exact gexp_ne_zero _

/-- The product of stripped polynomials, neither of them empty, has one coefficient less than the two together (R112). -/
theorem pmul_length_of_strip {a b : Poly} (ha : strip a = a) (hb : strip b = b) (ha0 : a ≠ []) (hb0 : b ≠ []) :
    (pmul a b).length = a.length + b.length - 1 := by
  obtain ⟨c, cs, rfl⟩ := List.exists_cons_of_ne_nil ha0
  obtain ⟨d, ds, rfl⟩ := List.exists_cons_of_ne_nil hb0
  have hc := leading_ne_zero_of_strip ha
  have hd := leading_ne_zero_of_strip hb
  rw [pmul_length cs ds hc hd (gmul_ne_zero hc hd)]
  simp only [List.length_cons]
  omega

/-- A coefficient of such a product, counted from the highest order, is the XOR-sum over `i + j = k` (R112). -/
theorem pmul_getD_of_strip {a b : Poly} (ha : strip a = a) (hb : strip b = b) (ha0 : a ≠ []) (hb0 : b ≠ [])
    {k : Nat} (hk : k < (pmul a b).length) :
    (pmul a b).getD k 0 =
      (List.range a.length).foldl
        (fun acc i => acc ^^^ (if i ≤ k ∧ k - i < b.length then gmul (a.getD i 0) (b.getD (k - i) 0) else 0)) 0 := by
  have hlen := pmul_length_of_strip ha hb ha0 hb0
  have hbl := List.length_pos_iff.2 hb0
  have hcoeff : (pmul a b).getD k 0 = polyCoeff (pmul a b) ((pmul a b).length - 1 - k) := by
    rw [polyCoeff_eq_getD (by omega), show (pmul a b).length - 1 - ((pmul a b).length - 1 - k) = k by omega]
  rw [hcoeff, ← coeffForm_value, XorForm.value_pmul, XorForm.value_eq_foldl]
  refine List.foldl_ext _ _ _ fun acc i hi => ?_
  have hi := List.mem_range.1 hi
  rw [XorForm.times_weight, coeffForm_timesTerm_value]
  by_cases hki : k - i < b.length
  · rw [if_pos (by omega)]
    by_cases hik : i ≤ k
    · rw [if_pos ⟨hik, hki⟩, polyCoeff_eq_getD (by omega)]
      congr 3
      omega
    · rw [if_neg (fun h => hik h.1), polyCoeff_eq_zero (by omega), gmul_zero]
  · rw [if_neg (by omega), if_neg (fun h => hki h.2)]

/-- Settles O21: the product at the coefficient form, summed over the first operand. -/
theorem productCoefficientsAreXorSums : Obligations.ProductCoefficientsAreXorSums := by
  intro a b
  refine ⟨pmul_eq_nil, fun ha hb => ?_⟩
  rw [← pmul_strip_strip a b]
  exact ⟨pmul_length_of_strip (strip_strip a) (strip_strip b) ha hb,
    fun k hk => pmul_getD_of_strip (strip_strip a) (strip_strip b) ha hb hk⟩

/-! ## The value at a field element -/

/-- The value at `x`: the coefficient of `x^j`, times `x` `j` times over (R15). -/
def evalForm (x : Byte) : XorForm where
  weight j c := (gmul x)^[j] c
  weight_xor j c d := by
    induction j with
    | zero => rfl
    | succ j ih => simp only [Function.iterate_succ_apply', ih, gmul_xor]

/-- The contribution of a product of two terms is the product of theirs. -/
theorem evalForm_weight_add (x : Byte) (m j : Nat) (c d : Byte) :
    (evalForm x).weight (m + j) (gmul c d) = gmul ((evalForm x).weight m c) ((evalForm x).weight j d) := by
  have hleft (n : Nat) (c d : Byte) : (gmul x)^[n] (gmul c d) = gmul ((gmul x)^[n] c) d := by
    induction n with
    | zero => rfl
    | succ n ih => simp only [Function.iterate_succ_apply', ih, gmul_assoc]
  simp only [evalForm]
  rw [Function.iterate_add_apply, gmul_comm c d, hleft j, gmul_comm, hleft m]

/-- The evaluation's run over the coefficients, from any start (R15). -/
theorem foldl_eq_evalForm (x : Byte) (p : Poly) (acc : Byte) :
    p.foldl (fun acc c => gmul acc x ^^^ c) acc = (evalForm x).weight p.length acc ^^^ (evalForm x).value p := by
  induction p generalizing acc with
  | nil => exact BitVec.xor_zero.symm
  | cons c cs ih =>
    rw [List.foldl_cons, ih, XorForm.weight_xor, XorForm.value_cons, BitVec.xor_assoc, gmul_comm]
    rfl

@[simp] theorem evalForm_value (x : Byte) (p : Poly) : (evalForm x).value p = polyEval p x := by
  rw [polyEval, foldl_eq_evalForm, XorForm.weight_zero]
  exact BitVec.zero_xor.symm

/-- The value of a product is the product of the values (R112). -/
theorem polyEval_pmul (a b : Poly) (x : Byte) : polyEval (pmul a b) x = gmul (polyEval a x) (polyEval b x) := by
  have hterm (m : Nat) (c : Byte) :
      ((evalForm x).timesTerm c m).value b = gmul ((evalForm x).weight m c) (polyEval b x) := by
    rw [← evalForm_value]
    exact XorForm.value_eq_gmul (fun j d => evalForm_weight_add x m j c d) b
  rw [← evalForm_value x (pmul a b), XorForm.value_pmul, gmul_comm, ← evalForm_value x a]
  exact XorForm.value_eq_gmul (fun j c => (hterm j c).trans (gmul_comm _ _)) a

/-- The factor `[1, exp(i)]` of the generator vanishes at `exp(i)` (R116). -/
theorem polyEval_factor_root (c : Byte) : polyEval [1, c] c = 0 := by
  have hone : (0 ^^^ 1 : Byte) = 1 := rfl
  simp only [polyEval, List.foldl_cons, List.foldl_nil, zero_gmul, hone, one_gmul, BitVec.xor_self]
  rfl

/-- Settles O25: a product vanishes where one of its factors does. -/
theorem generatorHasConsecutiveRoots : Obligations.GeneratorHasConsecutiveRoots := by
  intro n i hi
  induction n with
  | zero => exact absurd hi (Nat.not_lt_zero i)
  | succ n ih =>
    rw [gen, polyEval_pmul]
    rcases Nat.lt_succ_iff_lt_or_eq.1 hi with h | rfl
    · rw [ih h, zero_gmul]
    · rw [polyEval_factor_root, gmul_zero]

end Sys2Proof.Machine

namespace Sys2Proof.Machine

/-! # The remainder, and the codewords it makes (R113, R114, R117) -/

theorem gmul_gexp_of_ne_zero (n : Int) {e : Byte} (he : e ≠ 0) : gmul (gexp n) e = gexp (glog e + n) := by
  rw [gexp_add, gexp_glog he, gmul_comm]

/-- A coefficient of a pass subtracts the scaled divisor's (R113). -/
theorem modCoeff_eq (ratio : Int) (c e : Byte) : modCoeff ratio c e = c ^^^ gmul (gexp ratio) e := by
  unfold modCoeff
  split
  · next he =>
    rw [he, gmul_zero]
    exact BitVec.xor_zero.symm
  · next he => rw [gmul_gexp_of_ne_zero ratio he]

/-- A pass adds a multiple of the divisor by one term (R113). -/
theorem XorForm.value_modPass (φ : XorForm) (ratio : Int) {a e : Poly} {m : Nat} (h : a.length = m + e.length) :
    φ.value (modPass ratio a e) = φ.value a ^^^ (φ.timesTerm (gexp ratio) m).value e := by
  induction e generalizing a with
  | nil => cases a <;> exact BitVec.xor_zero.symm
  | cons d ds ih =>
    cases a with
    | nil => simp at h
    | cons c cs =>
      have h' : cs.length = m + ds.length := by simpa [← Nat.add_assoc] using h
      rw [modPass, value_cons, value_cons, value_cons, modPass_length, ih h', modCoeff_eq, φ.weight_xor, timesTerm_weight, h']
      ac_rfl

/-- The remainder loop keeps its dividend stripped. -/
theorem strip_pmodLoop (e : Poly) (fuel : Nat) {a : Poly} (ha : strip a = a) :
    strip (pmodLoop e fuel a) = pmodLoop e fuel a := by
  induction fuel generalizing a with
  | zero => exact ha
  | succ fuel ih =>
    rw [pmodLoop]
    split
    · exact ha
    · exact ih (by rw [construct_zero, strip_strip])

/-! ## The quotient -/

/-- `q` is the quotient that goes with remainder `r`: at every form `a` is `q·e` XOR `r`, and `q` has no more coefficients
than a quotient of `a` by `e` (R113). -/
def IsQuotient (q a e r : Poly) : Prop :=
  q.length ≤ a.length + 1 - e.length ∧ ∀ φ : XorForm, φ.value a = φ.value (pmul q e) ^^^ φ.value r

/-- Before the first pass the dividend is its own remainder. -/
theorem isQuotient_nil (a e : Poly) : IsQuotient [] a e a := by
  refine ⟨Nat.zero_le _, fun φ => ?_⟩
  rw [pmul_eq_nil (.inl rfl)]
  exact BitVec.zero_xor.symm

/-- The product with a polynomial of one more term: `c·x^m`, and `q` right-aligned below it. -/
theorem XorForm.value_pmul_term_cons (φ : XorForm) (c : Byte) {m : Nat} {q : Poly} (hq : q.length ≤ m) (e : Poly) :
    φ.value (pmul (c :: (zeros (m - q.length) ++ q)) e) = (φ.timesTerm c m).value e ^^^ φ.value (pmul q e) := by
  have hlen : (zeros (m - q.length) ++ q).length = m := by
    rw [List.length_append, zeros_length]
    omega
  rw [value_pmul, value_pmul, value_cons, value_zeros_append, times_weight, hlen]

/-- A pass gives the quotient its next term, the pass's scale factor (R113). -/
theorem IsQuotient.of_modPass {q a e r : Poly} {ratio : Int} (hle : e.length ≤ a.length)
    (hlt : (strip (modPass ratio a e)).length < a.length) (h : IsQuotient q (strip (modPass ratio a e)) e r) :
    IsQuotient (gexp ratio :: (zeros (a.length - e.length - q.length) ++ q)) a e r := by
  obtain ⟨hq, hvalue⟩ := h
  refine ⟨?_, fun φ => ?_⟩
  · simp only [List.length_cons, List.length_append, zeros_length]
    omega
  · have hpass := φ.value_modPass ratio (a := a) (e := e) (Nat.sub_add_cancel hle).symm
    rw [← φ.value_strip, hvalue φ] at hpass
    rw [φ.value_pmul_term_cons _ (by omega), BitVec.xor_assoc, hpass, BitVec.xor_comm, BitVec.xor_assoc, BitVec.xor_self]
    exact BitVec.xor_zero.symm

/-- The remainder loop has a quotient (R113). -/
theorem pmodLoop_isQuotient {e : Poly} (hne : e ≠ []) (he : strip e = e) (fuel : Nat) {a : Poly} (ha : strip a = a) :
    ∃ q, IsQuotient q a e (pmodLoop e fuel a) := by
  induction fuel generalizing a with
  | zero => exact ⟨[], isQuotient_nil a e⟩
  | succ fuel ih =>
    rw [pmodLoop]
    split
    · exact ⟨[], isQuotient_nil a e⟩
    · next hlen =>
      have hlt : (strip (modPass (glog (a.headD 0) - glog (e.headD 0)) a e)).length < a.length := by
        obtain ⟨d, ds, rfl⟩ := List.exists_cons_of_ne_nil hne
        cases a with
        | nil => simp at hlen
        | cons c cs => exact strip_modPass_length_lt (leading_ne_zero_of_strip ha) (leading_ne_zero_of_strip he)
      obtain ⟨q, hq⟩ := ih (strip_strip (modPass (glog (a.headD 0) - glog (e.headD 0)) a e))
      exact ⟨_, by simpa only [construct_zero] using hq.of_modPass (Nat.not_lt.1 hlen) hlt⟩

/-- The remainder is defined exactly by a divisor other than 0, and is the loop's end on the stripped operands (R113). -/
theorem pmod?_eq_some_iff {a e r : Poly} :
    pmod? a e = some r ↔ strip e ≠ [] ∧ pmodLoop (strip e) (strip a).length (strip a) = r := by
  simp only [pmod?, construct_zero]
  split
  · next h => simp [h]
  · next h => simp [h]

theorem pmod?_strip {a e r : Poly} (h : pmod? a e = some r) : strip r = r := by
  obtain ⟨-, rfl⟩ := pmod?_eq_some_iff.1 h
  exact strip_pmodLoop _ _ (strip_strip a)

/-- At every form the dividend is a multiple of the divisor XOR the remainder (R113). -/
theorem pmod?_value {a e r : Poly} (h : pmod? a e = some r) :
    ∃ q, ∀ φ : XorForm, φ.value a = φ.value (pmul q e) ^^^ φ.value r := by
  obtain ⟨hne, rfl⟩ := pmod?_eq_some_iff.1 h
  obtain ⟨q, -, hq⟩ := pmodLoop_isQuotient hne (strip_strip e) (strip a).length (strip_strip a)
  refine ⟨q, fun φ => ?_⟩
  rw [← φ.value_strip a, hq φ, φ.value_pmul, φ.times_strip, φ.value_pmul]

/-- Settles O23: the quotient of the division, at the coefficient forms. -/
theorem remainderIsCongruentAndShort : Obligations.RemainderIsCongruentAndShort := by
  intro a e r h
  obtain ⟨q, hq⟩ := pmod?_value h
  refine ⟨pmod?_strip h, pmod?_length_lt h, q, fun k => ?_⟩
  have hk := hq (coeffForm k)
  rwa [← XorForm.value_strip, coeffForm_value, coeffForm_value, coeffForm_value] at hk

/-! ## Codewords -/

theorem gen_ne_nil (n : Nat) : gen n ≠ [] := by
  rw [← List.length_pos_iff, gen_length]
  exact Nat.succ_pos n

/-- The EC codewords are the remainder of the shifted data, right-aligned (R117). -/
theorem rsEc_eq_remainder (data : Poly) (n : Nat) :
    ∃ r, pmod? (construct data n) (gen n) = some r ∧ rsEc data n = zeros (n - r.length) ++ r := by
  have h := (pmod?_eq_some_iff (a := construct data n) (e := gen n)).2 ⟨by rw [strip_gen]; exact gen_ne_nil n, rfl⟩
  exact ⟨_, h, by rw [rsEc, h]⟩

/-- At every form the data and their EC codewords make a multiple of the generator (R117). -/
theorem value_data_append_rsEc (data : Poly) (n : Nat) :
    ∃ q, ∀ φ : XorForm, φ.value (data ++ rsEc data n) = φ.value (pmul q (gen n)) := by
  obtain ⟨r, hr, hec⟩ := rsEc_eq_remainder data n
  obtain ⟨q, hq⟩ := pmod?_value hr
  refine ⟨q, fun φ => ?_⟩
  have hrem : φ.value (rsEc data n) = φ.value r := by rw [hec, φ.value_zeros_append]
  rw [φ.value_append, rsEc_length, ← φ.value_construct, hq φ, hrem, BitVec.xor_assoc, BitVec.xor_self]
  exact BitVec.xor_zero

/-- Settles O27: a multiple of the generator vanishes where the generator does. -/
theorem dataWithEcCodewordsIsCodeword : Obligations.DataWithEcCodewordsIsCodeword := by
  intro data n i hi
  obtain ⟨q, hq⟩ := value_data_append_rsEc data n
  rw [← evalForm_value, hq, evalForm_value, polyEval_pmul, generatorHasConsecutiveRoots n i hi, gmul_zero]

end Sys2Proof.Machine

namespace Sys2Proof.Machine

/-! # The polynomial commands (R115, R118 to R122) -/

/-! ## Commands that write window R -/

/-- POLY_MUL on the raw windows: the product strips them itself (R118). -/
theorem execPolyMul_eq (s : State) :
    execPolyMul s =
      if 256 < (pmul (s.rawList .a) (s.rawList .b)).length then raise .domain s
      else succeedR s (pmul (s.rawList .a) (s.rawList .b)) := by
  simp only [execPolyMul, construct_zero, pmul_strip_strip, polyMax_eq]

/-- Settles O20: the two branches of the command. -/
theorem polyMulWritesProduct : Obligations.PolyMulWritesProduct := by
  intro s
  refine ⟨fun h => ?_, fun h => ?_⟩
  · exact endsWith_of_raise ((execPolyMul_eq s).trans (if_pos h))
  · exact (execPolyMul_eq s).trans (if_neg (Nat.not_lt.2 h))

@[simp] theorem pmod?_strip_strip (a e : Poly) : pmod? (strip a) (strip e) = pmod? a e := by
  simp only [pmod?, construct_zero, strip_strip]

theorem pmod?_eq_none {a e : Poly} (h : strip e = []) : pmod? a e = none := by
  simp only [pmod?, construct_zero, if_pos h]

theorem execPolyMod_of_none {s : State} (h : pmod? (s.rawList .a) (s.rawList .b) = none) :
    execPolyMod s = raise .domain s := by
  simp only [execPolyMod, construct_zero, pmod?_strip_strip, h]

theorem execPolyMod_of_some {s : State} {p : Poly} (h : pmod? (s.rawList .a) (s.rawList .b) = some p) :
    execPolyMod s = succeedR s p := by
  simp only [execPolyMod, construct_zero, pmod?_strip_strip, h]

/-- Settles O22: the remainder exists unless the divisor is 0, and is shorter than it. -/
theorem polyModWritesRemainder : Obligations.PolyModWritesRemainder := by
  intro s
  refine ⟨fun h => endsWith_of_raise (execPolyMod_of_none (pmod?_eq_none h)), fun h => ?_⟩
  have hp := (pmod?_eq_some_iff (a := s.rawList .a)).2 ⟨h, rfl⟩
  exact ⟨_, hp, pmod?_length_lt hp, execPolyMod_of_some hp⟩

theorem gen_headD (n : Nat) : (gen n).headD 0 = 1 := by
  obtain ⟨cs, hgen, -⟩ := gen_eq_one_cons n
  rw [hgen, List.headD_cons]

theorem word_arg0_succ (s : State) : word (s.arg0 + 1) = s.arg.w0 + 1 := by
  rw [word, BitVec.ofNat_add, State.arg0, BitVec.ofNat_toNat, BitVec.setWidth_eq]
  rfl

theorem word_arg0 (s : State) : word s.arg0 = s.arg.w0 := by
  rw [word, State.arg0, BitVec.ofNat_toNat, BitVec.setWidth_eq]

/-- RS_GEN with L of at most 255 ends well, its generator in R and L + 1 in RES0 (R121). -/
theorem execRsGen_of_le {s : State} (h : s.arg0 ≤ 255) :
    execRsGen s = succeed (s.writeR (gen s.arg0)) (Quad.one (s.arg.w0 + 1)) := by
  rw [execRsGen, genMaxL_eq, if_neg (Nat.not_lt.2 h), succeedR, gen_length, word_arg0_succ]

/-- Settles O24: the generator has L + 1 coefficients and leads with 1. -/
theorem rsGenWritesGenerator : Obligations.RsGenWritesGenerator := fun _ =>
  ⟨fun h => endsWith_of_raise (if_pos h), fun h => ⟨gen_length _, gen_headD _, execRsGen_of_le h⟩⟩

/-- RS_ENCODE with L of at most 255 ends well, its L bytes in R and L in RES0 (R122). -/
theorem execRsEncode_of_le {s : State} (h : s.arg0 ≤ 255) :
    execRsEncode s = succeed (s.writeR (rsEc (s.rawList .a) s.arg0)) (Quad.one s.arg.w0) := by
  rw [execRsEncode, genMaxL_eq, if_neg (Nat.not_lt.2 h), succeedR, rsEc_length, word_arg0]

/-- Settles O26: the encoder gives exactly L bytes. -/
theorem rsEncodeWritesExactlyLBytes : Obligations.RsEncodeWritesExactlyLBytes := fun _ =>
  ⟨fun h => endsWith_of_raise (if_pos h), fun h => ⟨rsEc_length _ _, execRsEncode_of_le h⟩⟩

/-! ## Commands that write window A or B -/

theorem Win.ofSelect?_eq_none {n : Nat} (h : 1 < n) : Win.ofSelect? n = none := by
  unfold Win.ofSelect?
  split
  · omega
  · omega
  · rfl

/-- A write of one window leaves the other's length. -/
theorem State.winLen_writeWin_other (s : State) {w w' : Win} (hw : w' ≠ w) (p : List Byte) :
    (s.writeWin w p).winLen w' = s.winLen w' := by
  rw [State.writeWin_eq]
  cases w' with
  | a => exact if_neg (Ne.symm hw)
  | b => exact if_neg (Ne.symm hw)

/-- A write of a window leaves every cell but its first `p.length`. -/
theorem State.cell_writeWin_other {s : State} (h : s.cells.wf = true) {w : Win} {p : List Byte} {a : Nat}
    (ha : ∀ i < p.length, a ≠ w.offset i) : (s.writeWin w p).cell a = s.cell a := by
  rw [State.cell_writeWin, State.cell_setCells_other s h w.base a p ha]

/-- A command that ends well having written a window changes nothing but the cells, the lengths of A and B, RES and STATUS
(R283). -/
theorem State.writeWin_complete_frame (s : State) (w : Win) (p : List Byte) (q : Quad) :
    { (s.writeWin w p).complete .ok q with
      cells := s.cells, aLen := s.aLen, bLen := s.bLen, res := s.res, err := s.err, running := s.running, done := s.done } =
      s := by
  rw [State.writeWin_eq]
  rfl

/-- POLY_CONSTRUCT with a select above 1 is DOMAIN (R115). -/
theorem execPolyConstruct_of_no_window {s : State} (h : 1 < s.arg0) : execPolyConstruct s = raise .domain s := by
  rw [execPolyConstruct, Win.ofSelect?_eq_none h]

/-- POLY_CONSTRUCT on window `w` tests the new length, then writes the window (R115). -/
theorem execPolyConstruct_of_select {s : State} {w : Win} (hw : Win.ofSelect? s.arg0 = some w) :
    execPolyConstruct s =
      if 256 < (strip (s.rawList w)).length + s.arg1 then raise .domain s
      else succeed (s.writeWin w (construct (s.rawList w) s.arg1))
        (Quad.one (word ((strip (s.rawList w)).length + s.arg1))) := by
  rw [execPolyConstruct, hw, polyMax_eq]

/-- Settles O18: the window is written with its stripped list and the zeros. -/
theorem polyConstructStripsAndShifts : Obligations.PolyConstructStripsAndShifts := by
  intro s hwf
  refine ⟨fun h => endsWith_of_raise (execPolyConstruct_of_no_window h), fun w hw => ⟨fun h => ?_, fun h => ?_⟩⟩
  · exact endsWith_of_raise ((execPolyConstruct_of_select hw).trans (if_pos h))
  · have hlen := s.winLen_writeWin w (construct (s.rawList w) s.arg1)
    exact ⟨_, (execPolyConstruct_of_select hw).trans (if_neg (Nat.not_lt.2 h)), rfl, rfl, rfl, rfl,
      s.rawList_writeWin hwf w _, fun w' hw' => s.winLen_writeWin_other hw' _,
      fun a ha => State.cell_writeWin_other hwf fun i hi => ha i (hi.trans_eq hlen.symm), s.writeWin_complete_frame w _ _⟩

/-- POLY_MOVE with a select above 1 is DOMAIN (R120). -/
theorem execPolyMove_of_no_window {s : State} (h : 1 < s.arg0) : execPolyMove s = raise .domain s := by
  rw [execPolyMove, Win.ofSelect?_eq_none h]

/-- POLY_MOVE to window `w` writes it with R (R120). -/
theorem execPolyMove_of_select {s : State} {w : Win} (hw : Win.ofSelect? s.arg0 = some w) :
    execPolyMove s = succeed (s.writeWin w s.r) (Quad.one (word s.rLen)) := by
  rw [execPolyMove, hw]

/-- Settles O19: the window is written with the contents of R. -/
theorem polyMoveCopiesResult : Obligations.PolyMoveCopiesResult := by
  intro s hwf
  refine ⟨fun h => endsWith_of_raise (execPolyMove_of_no_window h), fun w hw => ?_⟩
  exact ⟨_, execPolyMove_of_select hw, rfl, rfl, rfl, rfl, s.winLen_writeWin w s.r, s.rawList_writeWin hwf w s.r,
    fun w' hw' => s.winLen_writeWin_other hw' s.r, fun a ha => State.cell_writeWin_other hwf ha,
    s.writeWin_complete_frame w s.r _⟩

end Sys2Proof.Machine

namespace Sys2Proof.Machine

/-! # The capacity table and its plans (R130 to R134, R137) -/

/-! ## Table entries -/

theorem Level.code_lt (lvl : Level) : lvl.code < 4 := by cases lvl <;> decide

/-- A level code names exactly the level that has it (R130). -/
theorem Level.ofCode?_eq_some_iff {n : Nat} {lvl : Level} : Level.ofCode? n = some lvl ↔ n = lvl.code := by
  constructor
  · intro h
    unfold Level.ofCode? at h
    split at h <;> cases h <;> rfl
  · rintro rfl
    exact Level.ofCode?_code lvl

/-- The entry of a version and level is the one at their index, for a version 1..40 (R131, R133). -/
theorem ecRow?_eq_some_iff {v : Nat} {lvl : Level} {e : EcRow} :
    ecRow? v lvl = some e ↔ (1 ≤ v ∧ v ≤ 40) ∧ ecTable[4 * (v - 1) + lvl.code]? = some e := by
  rw [ecRow?, ← versionOk_iff, Option.ite_none_right_eq_some]

theorem plan?_eq_some_iff {v : Nat} {lvl : Level} {p : List Block} :
    plan? v lvl = some p ↔ ∃ e, ecRow? v lvl = some e ∧ e.blocks = p := Option.map_eq_some_iff

theorem mem_ecTable_of_ecRow? {v : Nat} {lvl : Level} {e : EcRow} (h : ecRow? v lvl = some e) : e ∈ ecTable :=
  List.mem_of_getElem? (ecRow?_eq_some_iff.1 h).2

theorem ecTable_length : ecTable.length = 160 := by decide +kernel

/-- The table has an entry for every version 1..40 and level (R130). -/
theorem exists_ecRow? {v : Nat} (lvl : Level) (h1 : 1 ≤ v) (h40 : v ≤ 40) : ∃ e, ecRow? v lvl = some e := by
  have hi : 4 * (v - 1) + lvl.code < ecTable.length := by
    have := lvl.code_lt
    rw [ecTable_length]
    omega
  exact ⟨_, ecRow?_eq_some_iff.2 ⟨⟨h1, h40⟩, List.getElem?_eq_getElem hi⟩⟩

/-! ## The numbers of the table

What holds of the table's numbers alone is a finite check on them; the index of an entry gives its version and level. -/

theorem ecTable_data_le_total : ∀ e ∈ ecTable, e.g1.data ≤ e.g1.total := by decide +kernel

/-- A second group has one more total and one more data codeword a block (R130). -/
theorem ecTable_second_group : ∀ e ∈ ecTable, ∀ g ∈ e.g2,
    0 < g.count ∧ g.total = e.g1.total + 1 ∧ g.data = e.g1.data + 1 := by decide +kernel

/-- The EC counts a block that occur (R137). -/
theorem ecTable_ec_mem : ∀ e ∈ ecTable,
    e.g1.total - e.g1.data ∈ [7, 10, 13, 15, 16, 17, 18, 20, 22, 24, 26, 28, 30] := by decide +kernel

/-- The generator of an EC count that occurs has no zero coefficient (R137). -/
theorem zero_notMem_gen : ∀ n ∈ [7, 10, 13, 15, 16, 17, 18, 20, 22, 24, 26, 28, 30], (0 : Byte) ∉ gen n := by
  decide +kernel

/-- The blocks of an entry fill the raw capacity of its version (R134, R137). -/
theorem ecTable_cwTotal : ∀ k < 40, ∀ l < 4, ∀ e ∈ ecTable[4 * k + l]?, cwTotal e.blocks = rawModules (k + 1) / 8 := by
  decide +kernel

/-- A higher level leaves less capacity at the same version (R137). -/
theorem ecTable_capacity_level : ∀ k < 40, ∀ l' < 4, ∀ l < l',
    ∀ e ∈ ecTable[4 * k + l]?, ∀ e' ∈ ecTable[4 * k + l']?, dataTotal e'.blocks < dataTotal e.blocks := by decide +kernel

/-- The next version has more capacity at the same level (R137). -/
theorem ecTable_capacity_version : ∀ k < 39, ∀ l < 4, ∀ e ∈ ecTable[4 * k + l]?, ∀ e' ∈ ecTable[4 * (k + 1) + l]?,
    dataTotal e.blocks < dataTotal e'.blocks := by decide +kernel

/-- Every number of a group fits its byte of a result (R135). -/
theorem ecTable_group_lt : ∀ e ∈ ecTable, ∀ g ∈ e.g1 :: e.g2.toList, g.count < 256 ∧ g.total < 256 ∧ g.data < 256 := by
  decide +kernel

/-- Every total of a plan fits its half of a result (R135). -/
theorem ecTable_total_lt : ∀ e ∈ ecTable, dataTotal e.blocks < 65536 ∧ ecTotal e.blocks < 65536 := by decide +kernel

/-- The number of blocks and the largest counts of a plan fit their bytes of a result (R135). -/
theorem ecTable_aggregate_lt : ∀ e ∈ ecTable,
    e.blocks.length < 256 ∧ maxEc e.blocks < 256 ∧ maxData e.blocks < 256 := by decide +kernel

/-! ## The blocks of a plan -/

/-- A block of an entry is one of its first or of its second group (R131). -/
theorem EcRow.of_mem_blocks {e : EcRow} {b : Block} (hb : b ∈ e.blocks) :
    b = ⟨e.g1.total, e.g1.data⟩ ∨ ∃ g ∈ e.g2, b = ⟨g.total, g.data⟩ := by
  rw [EcRow.blocks, List.mem_append] at hb
  rcases hb with hb | hb
  · exact .inl (List.eq_of_mem_replicate hb)
  · split at hb
    · next g hg => exact .inr ⟨g, hg, List.eq_of_mem_replicate hb⟩
    · cases hb

/-- A second group's extra codeword is a data codeword, so every block has the EC count of the first group (R130, R132). -/
theorem data_le_and_ec_of_mem_blocks {e : EcRow} (he : e ∈ ecTable) {b : Block} (hb : b ∈ e.blocks) :
    b.data ≤ b.total ∧ b.ec = e.g1.total - e.g1.data := by
  have hle := ecTable_data_le_total e he
  rcases e.of_mem_blocks hb with rfl | ⟨g, hg, rfl⟩
  · exact ⟨hle, rfl⟩
  · obtain ⟨-, htotal, hdata⟩ := ecTable_second_group e he g hg
    simp only [Block.ec]
    omega

/-- The data and EC codewords of a plan are its codewords (R132). -/
theorem dataTotal_add_ecTotal {p : List Block} (h : ∀ b ∈ p, b.data ≤ b.total) : dataTotal p + ecTotal p = cwTotal p := by
  rw [dataTotal, ecTotal, cwTotal, ← List.sum_map_add]
  exact congrArg List.sum (List.map_congr_left fun b hb => Nat.add_sub_of_le (h b hb))

/-- Where every block has the same EC count, it is the largest (R132). -/
theorem maxEc_eq {p : List Block} {n : Nat} (hp : p ≠ []) (h : ∀ b ∈ p, b.ec = n) : maxEc p = n := by
  have hfold (k : Nat) : (List.replicate k n).foldl max n = n := by
    induction k with
    | zero => rfl
    | succ k ih => rw [List.replicate_succ, List.foldl_cons, max_self, ih]
  obtain ⟨b, bs, rfl⟩ := List.exists_cons_of_ne_nil hp
  rw [maxEc, List.map_eq_replicate_iff.2 h, List.length_cons, List.replicate_succ, List.foldl_cons, Nat.zero_max, hfold]

/-- Settles O30: the group shape gives one EC count for all blocks, and so the totals; the rest is the table's numbers at the
index of the version and level. -/
theorem capacityTableProperties : Obligations.CapacityTableProperties := by
  intro v lvl h1 h40
  obtain ⟨k, rfl⟩ := Nat.exists_eq_add_of_le' h1
  obtain ⟨e, he⟩ := exists_ecRow? lvl h1 h40
  have hmem := mem_ecTable_of_ecRow? he
  have hec := fun b => data_le_and_ec_of_mem_blocks hmem (b := b)
  have hat := (ecRow?_eq_some_iff.1 he).2
  refine ⟨e, e.blocks, he, plan?_eq_some_iff.2 ⟨e, he, rfl⟩, dataTotal_add_ecTotal fun b hb => (hec b hb).1,
    ecTable_cwTotal k h40 _ lvl.code_lt e hat, ecTable_second_group e hmem, fun b hb => ?_, fun lvl' p' hlt hp' => ?_,
    fun p' hp' => ?_⟩
  · have hb' := (hec b hb).2
    have hcount := ecTable_ec_mem e hmem
    rw [← hb'] at hcount
    exact ⟨hb'.trans (maxEc_eq (List.ne_nil_of_mem hb) fun c hc => (hec c hc).2).symm, hcount,
      fun c hc => ne_of_mem_of_not_mem hc (zero_notMem_gen _ hcount)⟩
  · obtain ⟨e', he', rfl⟩ := plan?_eq_some_iff.1 hp'
    exact ecTable_capacity_level k h40 _ lvl'.code_lt _ hlt e hat e' (ecRow?_eq_some_iff.1 he').2
  · obtain ⟨e', he', rfl⟩ := plan?_eq_some_iff.1 hp'
    obtain ⟨⟨-, hnext⟩, hat'⟩ := ecRow?_eq_some_iff.1 he'
    exact ecTable_capacity_version k (by omega) _ lvl.code_lt e hat e' hat'

end Sys2Proof.Machine

namespace Sys2Proof.Machine

/-! # EC_PLAN and RAW_MODULES (R135, R136) -/

/-! ## Fields of a result -/

/-- A field above `k` low bits adds to them. -/
theorem or_shiftLeft_eq_add {low k : Nat} (high : Nat) (h : low < 2 ^ k) : low ||| high <<< k = low + 2 ^ k * high := by
  rw [Nat.shiftLeft_eq, Nat.mul_comm, Nat.or_comm, ← Nat.two_pow_add_eq_or_of_lt h, Nat.add_comm]

/-- A result of two halves (R135). -/
theorem word_halves_toNat {a b : Nat} (ha : a < 65536) (hb : b < 65536) : (word (a ||| b <<< 16)).toNat = a + 65536 * b := by
  rw [word_toNat, or_shiftLeft_eq_add b ha]
  omega

/-- A result of three bytes (R135). -/
theorem word_bytes_toNat {a b c : Nat} (ha : a < 256) (hb : b < 256) (hc : c < 256) :
    (word (a ||| b <<< 8 ||| c <<< 16)).toNat = a + 256 * b + 65536 * c := by
  have hab : a ||| b <<< 8 = a + 256 * b := or_shiftLeft_eq_add b ha
  rw [hab, word_halves_toNat (by omega) (by omega)]

/-- The packing of a group of the table keeps its numbers apart (R135). -/
theorem word_packed_toNat {e : EcRow} (he : e ∈ ecTable) {g : Group} (hg : g ∈ e.g1 :: e.g2.toList) :
    (word g.packed).toNat = g.count + 256 * g.total + 65536 * g.data := by
  obtain ⟨hcount, htotal, hdata⟩ := ecTable_group_lt e he g hg
  exact word_bytes_toNat hcount htotal hdata

/-! ## The commands -/

/-- EC_PLAN with no entry for its operands is DOMAIN (R135). -/
theorem execEcPlan_of_no_row {s : State} (h : ∀ lvl : Level, s.arg1 = lvl.code → ecRow? s.arg0 lvl = none) :
    execEcPlan s = raise .domain s := by
  rw [execEcPlan, Option.bind_eq_none_iff.2 fun lvl hlvl => h lvl (Level.ofCode?_eq_some_iff.1 hlvl)]

/-- EC_PLAN with an entry for its operands ends well with the entry's groups and aggregates (R135). -/
theorem execEcPlan_of_row {s : State} {lvl : Level} {e : EcRow} (hlvl : s.arg1 = lvl.code)
    (he : ecRow? s.arg0 lvl = some e) :
    ∃ q, execEcPlan s = succeed s q ∧ q.w0 = word e.g1.packed ∧ (e.g2 = none → q.w1 = 0) ∧
      (∀ g, e.g2 = some g → 0 < g.count → q.w1 = word g.packed) ∧
      q.w2 = word (dataTotal e.blocks ||| ecTotal e.blocks <<< 16) ∧
      q.w3 = word (e.blocks.length ||| maxEc e.blocks <<< 8 ||| maxData e.blocks <<< 16) := by
  rw [execEcPlan, hlvl, Level.ofCode?_code, Option.bind_some, he]
  refine ⟨_, rfl, rfl, fun hg => ?_, fun g hg hcount => ?_, rfl, rfl⟩
  · rw [hg]
    rfl
  · simp only [hg, if_pos hcount]

/-- Settles O28: the operands name an entry exactly in their ranges, and its numbers fit their fields. -/
theorem ecPlanReportsPlan : Obligations.EcPlanReportsPlan := by
  intro s
  refine ⟨fun h => endsWith_of_raise (execEcPlan_of_no_row fun lvl hlvl => ?_), fun lvl h1 h40 hlvl => ?_⟩
  · have hcode := lvl.code_lt
    rw [← hlvl, State.arg1] at hcode
    refine if_neg (mt (versionOk_iff _).1 ?_)
    rw [State.arg0]
    omega
  · obtain ⟨e, he⟩ := exists_ecRow? lvl h1 h40
    have hmem := mem_ecTable_of_ecRow? he
    obtain ⟨q, hexec, h0, hnone, hsome, h2, h3⟩ := execEcPlan_of_row hlvl he
    obtain ⟨hdata, hec⟩ := ecTable_total_lt e hmem
    obtain ⟨hlen, hmaxEc, hmaxData⟩ := ecTable_aggregate_lt e hmem
    refine ⟨e, e.blocks, q, he, plan?_eq_some_iff.2 ⟨e, he, rfl⟩, answers_of_succeed hexec, ?_, hnone, fun g hg => ?_,
      ?_, ?_⟩
    · rw [h0, word_packed_toNat hmem List.mem_cons_self]
    · rw [hsome g hg (ecTable_second_group e hmem g hg).1, word_packed_toNat hmem (by simp [hg])]
    · rw [h2, word_halves_toNat hdata hec]
    · rw [h3, word_bytes_toNat hlen hmaxEc hmaxData]

/-- Settles O29: the two branches of the command, on whether the version is a table key. -/
theorem rawModulesReportsCapacity : Obligations.RawModulesReportsCapacity := by
  intro s
  refine ⟨fun h => endsWith_of_raise (if_neg ?_), fun h1 h40 => answers_of_succeed (if_pos ?_)⟩
  · rw [versionOk_iff, State.arg0]
    omega
  · exact (versionOk_iff _).2 ⟨h1, h40⟩

end Sys2Proof.Machine

namespace Sys2Proof.Machine

/-! # Mode codes, and the commands CCW, STAGE_CLEAR, BB_CLEAR, NOP and ADD_DATA (R140, R142, R150, R153, R154, R171, R264) -/

/-! ## Mode codes -/

/-- A mode code names exactly the mode that has it (R140). -/
theorem Mode.ofCode?_eq_some_iff {n : Nat} {m : Mode} : Mode.ofCode? n = some m ↔ n = m.code := by
  constructor
  · intro h
    unfold Mode.ofCode? at h
    split at h <;> cases h <;> rfl
  · rintro rfl
    exact Mode.ofCode?_code m

theorem Mode.code_mem (m : Mode) : m.code ∈ [1, 2, 4, 8] := by cases m <;> decide

theorem Mode.ofCode?_eq_none {n : Nat} (h : n ∉ [1, 2, 4, 8]) : Mode.ofCode? n = none :=
  Option.eq_none_iff_forall_ne_some.2 fun m hm => h (Mode.ofCode?_eq_some_iff.1 hm ▸ m.code_mem)

/-! ## CCW -/

/-- A row of the table of count widths is a mode's, by the three ranges of versions (R153). -/
theorem exists_mode_of_mem_ccwTable {code w9 w26 w40 : Nat}
    (h : (code, w9, w26, w40) ∈ [(1, 10, 12, 14), (2, 9, 11, 13), (4, 8, 16, 16), (8, 8, 10, 12)]) :
    ∃ m : Mode, code = m.code ∧ ∀ v, ccw m v = if v ≤ 9 then w9 else if v ≤ 26 then w26 else w40 := by
  simp only [List.mem_cons, Prod.mk.injEq, List.not_mem_nil, or_false] at h
  rcases h with ⟨rfl, rfl, rfl, rfl⟩ | ⟨rfl, rfl, rfl, rfl⟩ | ⟨rfl, rfl, rfl, rfl⟩ | ⟨rfl, rfl, rfl, rfl⟩
  · exact ⟨.numeric, rfl, fun _ => rfl⟩
  · exact ⟨.alphanumeric, rfl, fun _ => rfl⟩
  · exact ⟨.byte, rfl, fun v => by rw [ite_self, ccw]⟩
  · exact ⟨.kanji, rfl, fun _ => rfl⟩

/-- CCW with a code that names no mode is DOMAIN (R154). -/
theorem execCcw_of_no_mode {s : State} (h : s.arg0 ∉ [1, 2, 4, 8]) : execCcw s = raise .domain s := by
  rw [execCcw, Mode.ofCode?_eq_none h]

/-- CCW with a mode's code tests the version (R154). -/
theorem execCcw_of_mode {s : State} {m : Mode} (hm : s.arg0 = m.code) :
    execCcw s = if versionOk s.arg1 then succeed s (Quad.one (word (ccw m s.arg1))) else raise .domain s := by
  rw [execCcw, hm, Mode.ofCode?_code]

/-- CCW with a version outside 1..40 is DOMAIN, whatever the mode (R154). -/
theorem execCcw_of_no_version {s : State} (h : s.arg1 < 1 ∨ 40 < s.arg1) : execCcw s = raise .domain s := by
  cases hm : Mode.ofCode? s.arg0 with
  | none => rw [execCcw, hm]
  | some m =>
    rw [execCcw_of_mode (Mode.ofCode?_eq_some_iff.1 hm), if_neg]
    rw [versionOk_iff]
    omega

/-- CCW with a mode and a version of the table ends well with the width (R154). -/
theorem answers_ccw {s : State} {m : Mode} (hm : s.arg0 = m.code) (h1 : 1 ≤ s.arg1) (h40 : s.arg1 ≤ 40) {w : Nat}
    (hw : ccw m s.arg1 = w) : Answers .ccw s ⟨BitVec.ofNat 32 w, 0, 0, 0⟩ :=
  answers_of_succeed ((execCcw_of_mode hm).trans (hw ▸ if_pos ((versionOk_iff _).2 ⟨h1, h40⟩)))

/-- Settles O31: the errors of the two operands, and a row of the table in each of its three ranges. -/
theorem ccwGivesCountWidth : Obligations.CcwGivesCountWidth := by
  intro s
  refine ⟨fun h => ?_, fun code w9 w26 w40 hrow hcode => ?_⟩
  · rcases h with hmode | hversion
    · exact endsWith_of_raise (execCcw_of_no_mode hmode)
    · exact endsWith_of_raise (execCcw_of_no_version hversion)
  · obtain ⟨m, rfl, hccw⟩ := exists_mode_of_mem_ccwTable hrow
    refine ⟨fun h1 h9 => ?_, fun h10 h26 => ?_, fun h27 h40 => ?_⟩
    · exact answers_ccw hcode h1 (h9.trans (by decide)) ((hccw _).trans (if_pos h9))
    · exact answers_ccw hcode (h10.trans' (by decide)) (h26.trans (by decide))
        ((hccw _).trans ((if_neg (Nat.not_le.2 h10)).trans (if_pos h26)))
    · exact answers_ccw hcode (h27.trans' (by decide)) h40
        ((hccw _).trans ((if_neg (Nat.not_le.2 (h27.trans' (by decide)))).trans (if_neg (Nat.not_le.2 h27))))

/-! ## STAGE_CLEAR, BB_CLEAR and NOP -/

/-- An entry of window BB reads the byte of the buffer, which is 0 in an empty one (R66, R171). -/
theorem regValue_bbByte_of_empty {s : State} (h : s.bb = []) (i : Nat) : s.regValue (.bbByte i) = 0 := by
  rw [State.regValue, h, bufByte_nil]
  rfl

/-- Settles O32: each of the three commands has one end, with its writes. -/
theorem clearsAndNopComplete : Obligations.ClearsAndNopComplete := fun _ =>
  ⟨rfl, rfl, regValue_bbByte_of_empty rfl, answers_of_succeed rfl⟩

/-! ## ADD_DATA -/

/-- The three ways the store is full (R150). -/
theorem State.segStoreFull_iff (s : State) :
    s.segStoreFull = true ↔ s.stageOvf = true ∨ s.segCount = 2048 ∨ 8192 < s.segBytes + s.stageLen := by
  rw [State.segStoreFull, segMax_eq, segStoreBytes_eq, Bool.or_eq_true, Bool.or_eq_true, beq_iff_eq, decide_eq_true_eq,
    or_assoc]

/-- ADD_DATA with a code that names no mode is INVALID_MODE (R150). -/
theorem execAddData_of_no_mode {s : State} (h : s.arg0 ∉ [1, 2, 4, 8]) : execAddData s = raise .invalidMode s := by
  rw [execAddData, Mode.ofCode?_eq_none h]

/-- ADD_DATA with a mode's code tests the store, then the bytes, then commits the segment (R150). -/
theorem execAddData_of_mode {s : State} {m : Mode} (hm : s.arg0 = m.code) :
    execAddData s =
      if s.segStoreFull then raise .storeFull s
      else if !validIn m s.stage then raise .illegalChar s
      else succeed (s.addSegment m)
        ⟨word (charCount m s.stage), word (segBits m (charCount m s.stage)), word (s.segCount + 1), 0⟩ := by
  rw [execAddData, hm, Mode.ofCode?_code]

/-- Settles O33: the tests in their order, and the writes of a segment that passes them. -/
theorem addDataAppendsSegmentOrReportsFirstError : Obligations.AddDataAppendsSegmentOrReportsFirstError := by
  intro s
  refine ⟨fun h => endsWith_of_raise (execAddData_of_no_mode h), fun m hm => ⟨fun hfull => ?_, fun hovf hcount hbytes => ?_⟩⟩
  · exact endsWith_of_raise ((execAddData_of_mode hm).trans (if_pos (s.segStoreFull_iff.2 hfull)))
  · have hroom : ¬ s.segStoreFull = true := by
      rw [s.segStoreFull_iff, hovf, Bool.false_eq_true, false_or]
      omega
    have hexec := (execAddData_of_mode hm).trans (if_neg hroom)
    refine ⟨fun hinvalid => endsWith_of_raise (hexec.trans (if_pos ?_)), fun hvalid => hexec.trans (if_neg ?_)⟩
    · rw [hinvalid]
      rfl
    · rw [hvalid]
      decide

end Sys2Proof.Machine

namespace Sys2Proof.Machine

/-! # The packed stream and its length (R151, R152, R155, R181) -/

/-! ## The bits of a segment -/

/-- A field's bits by bit tests are its bits by division (R173). -/
theorem fieldBits_eq_msbBits (value n : Nat) : fieldBits value n = msbBits value n :=
  List.map_congr_left fun _ _ => Nat.testBit_eq_decide_div_mod_eq

@[simp] theorem msbBits_length (value n : Nat) : (msbBits value n).length = n := by
  rw [← fieldBits_eq_msbBits, fieldBits_length]

theorem put_eq_append_msbBits (buf : List Bool) (value n : Nat) : put buf value n = buf ++ msbBits value n := by
  rw [put, fieldBits_eq_msbBits]

theorem putFields_eq_append (buf : List Bool) (fs : List (Nat × Nat)) :
    putFields buf fs = buf ++ fs.flatMap (fun f => msbBits f.1 f.2) := by
  induction fs generalizing buf with
  | nil => exact (List.append_nil buf).symm
  | cons f fs ih => rw [putFields, ih, put_eq_append_msbBits, List.append_assoc, List.flatMap_cons]

/-- A segment's units are its pairs in Kanji mode, its bytes in the others (R151). -/
theorem charCount_eq (m : Mode) (bs : List Byte) :
    charCount m bs = if m = .kanji then bs.length / 2 else bs.length := by cases m <;> rfl

/-- The write of a segment appends its bits (R155). -/
theorem segWrite_eq_append (buf : List Bool) (g : Segment) (v : Nat) : segWrite buf g v = buf ++ segmentBits v g := by
  simp only [segWrite, segmentBits, putFields_eq_append, put_eq_append_msbBits, charCount_eq, List.append_assoc]

theorem packOnto_eq_append (buf : List Bool) (v : Nat) (segs : List Segment) :
    packOnto buf v segs = buf ++ segs.flatMap (segmentBits v) := by
  induction segs generalizing buf with
  | nil => exact (List.append_nil buf).symm
  | cons g segs ih => rw [packOnto, ih, segWrite_eq_append, List.append_assoc, List.flatMap_cons]

theorem pack_eq_flatMap (segs : List Segment) (v : Nat) : pack segs v = segs.flatMap (segmentBits v) :=
  packOnto_eq_append [] v segs

/-! ## The widths of the data fields -/

/-- The bits of an encoder's fields. -/
def fieldsWidth (fs : List (Nat × Nat)) : Nat := (fs.map Prod.snd).sum

@[simp] theorem fieldsWidth_nil : fieldsWidth [] = 0 := rfl

@[simp] theorem fieldsWidth_cons (f : Nat × Nat) (fs : List (Nat × Nat)) :
    fieldsWidth (f :: fs) = f.2 + fieldsWidth fs := List.sum_cons

theorem flatMap_msbBits_length (fs : List (Nat × Nat)) :
    (fs.flatMap (fun f => msbBits f.1 f.2)).length = fieldsWidth fs := by
  simp only [List.length_flatMap, msbBits_length]
  rfl

/-- The rest of a division by 3 in the closed form of Numeric mode, by the list of its values (R152). -/
theorem segBits_numeric (n : Nat) : segBits .numeric n = 10 * (n / 3) + [0, 4, 7].getD (n % 3) 0 := by
  have hlt : n % 3 < 3 := Nat.mod_lt _ (by decide)
  rw [segBits]
  generalize n % 3 = r at hlt ⊢
  match r, hlt with
  | 0, _ | 1, _ | 2, _ => rfl

/-- Three more digits cost ten more bits (R152). -/
theorem segBits_numeric_add_three (n : Nat) : segBits .numeric (n + 3) = 10 + segBits .numeric n := by
  rw [segBits_numeric, segBits_numeric, Nat.add_mod_right, Nat.add_div_right n (by decide)]
  omega

theorem fieldsWidth_encNumeric (bs : List Byte) : fieldsWidth (encNumeric bs) = segBits .numeric bs.length := by
  induction bs using encNumeric.induct with
  | case1 a b c rest ih => rw [encNumeric, fieldsWidth_cons, ih]; exact (segBits_numeric_add_three _).symm
  | case2 a b => simp [encNumeric, segBits]
  | case3 a => simp [encNumeric, segBits]
  | case4 => rfl

theorem fieldsWidth_encAlnum (bs : List Byte) : fieldsWidth (encAlnum bs) = segBits .alphanumeric bs.length := by
  induction bs using encAlnum.induct with
  | case1 a b rest ih =>
    rw [encAlnum, fieldsWidth_cons, ih]
    simp only [segBits, List.length_cons]
    omega
  | case2 a => simp [encAlnum, segBits]
  | case3 => rfl

theorem fieldsWidth_encByte (bs : List Byte) : fieldsWidth (encByte bs) = segBits .byte bs.length := by
  induction bs with
  | nil => rfl
  | cons b bs ih =>
    rw [encByte, List.map_cons, fieldsWidth_cons, ← encByte, ih]
    simp only [segBits, List.length_cons]
    omega

/-- Two more bytes are one more pair (R148). -/
theorem half_length_cons_cons (hi lo : Byte) (rest : List Byte) :
    (hi :: lo :: rest).length / 2 = rest.length / 2 + 1 := Nat.add_div_right rest.length Nat.two_pos

@[simp] theorem encKanji_singleton (b : Byte) : encKanji [b] = [] := by
  rw [encKanji]
  exact nofun

/-- The pairs of a list give its fields; a last byte without a partner gives none (R149). -/
theorem fieldsWidth_encKanji (bs : List Byte) : fieldsWidth (encKanji bs) = segBits .kanji (bs.length / 2) := by
  induction bs using validKanji.induct with
  | case1 => rfl
  | case2 b => simp [segBits]
  | case3 hi lo rest ih =>
    rw [encKanji, fieldsWidth_cons, ih, half_length_cons_cons]
    simp only [segBits]
    omega

/-- The fields of a segment's data are as wide as the closed form says (R152). -/
theorem fieldsWidth_encFields (m : Mode) (bs : List Byte) : fieldsWidth (encFields m bs) = segBits m (charCount m bs) := by
  cases m with
  | numeric => exact fieldsWidth_encNumeric bs
  | alphanumeric => exact fieldsWidth_encAlnum bs
  | byte => exact fieldsWidth_encByte bs
  | kanji => exact fieldsWidth_encKanji bs

/-! ## The length of the stream -/

/-- A segment's bits are as many as it costs (R181). -/
theorem segmentBits_length (v : Nat) (g : Segment) : (segmentBits v g).length = segCost v g := by
  rw [segmentBits, List.length_append, List.length_append, msbBits_length, msbBits_length, flatMap_msbBits_length,
    fieldsWidth_encFields, segCost]

theorem pack_length (segs : List Segment) (v : Nat) : (pack segs v).length = packedBits segs v := by
  simp only [pack_eq_flatMap, List.length_flatMap, segmentBits_length, packedBits]

/-- Settles O34: a segment appends its bits, and its fields have the widths of the closed form. -/
theorem packedLengthIsClosedForm : Obligations.PackedLengthIsClosedForm := by
  intro segs v
  refine ⟨pack_eq_flatMap segs v, pack_length segs v, congrArg List.sum (List.map_congr_left fun g _ => ?_)⟩
  obtain ⟨m, bs⟩ := g
  cases m with
  | numeric => rw [segCost, segBits_numeric]; rfl
  | alphanumeric => rfl
  | byte => rfl
  | kanji => rfl

end Sys2Proof.Machine

namespace Sys2Proof.Machine

/-! # The data fields of the four modes (R144 to R149) -/

/-! ## Valid bytes -/

theorem isDigit_iff (b : Byte) : isDigit b = true ↔ 0x30 ≤ b.toNat ∧ b.toNat ≤ 0x39 := by
  rw [isDigit, Bool.and_eq_true, decide_eq_true_eq, decide_eq_true_eq]

theorem validNumeric_iff (bs : List Byte) : validNumeric bs = true ↔ ∀ b ∈ bs, 0x30 ≤ b.toNat ∧ b.toNat ≤ 0x39 := by
  simp only [validNumeric, List.all_eq_true, isDigit_iff]

/-- A character's code is its place among the 45 (R145). -/
theorem alnumCode?_eq_idxOf? (b : Byte) : alnumCode? b = alphabet45.idxOf? b := by
  have h : ∀ n < 256, alnumCode? (BitVec.ofNat 8 n) = alphabet45.idxOf? (BitVec.ofNat 8 n) := by decide +kernel
  have hb := h b.toNat b.isLt
  rwa [BitVec.ofNat_toNat, BitVec.setWidth_eq] at hb

theorem validAlnum_iff (bs : List Byte) : validAlnum bs = true ↔ ∀ b ∈ bs, b ∈ alphabet45 := by
  simp only [validAlnum, List.all_eq_true, alnumCode?_eq_idxOf?, List.isSome_idxOf?]

theorem length_cons_cons_mod_two (hi lo : Byte) (rest : List Byte) :
    (hi :: lo :: rest).length % 2 = rest.length % 2 := Nat.add_mod_right rest.length 2

/-- The first pair of a list, and the pairs after it (R148). -/
@[simp] theorem pairAt_cons_cons_zero (hi lo : Byte) (rest : List Byte) :
    pairAt (hi :: lo :: rest) 0 = pairValue hi lo := rfl

@[simp] theorem pairAt_cons_cons_succ (hi lo : Byte) (rest : List Byte) (k : Nat) :
    pairAt (hi :: lo :: rest) (k + 1) = pairAt rest k := rfl

/-- The pair values of the two Kanji ranges (R148). -/
theorem kanjiLow_or_kanjiHigh_iff (c : Nat) :
    (kanjiLow c || kanjiHigh c) = true ↔ (0x8140 ≤ c ∧ c ≤ 0x9FFC) ∨ (0xE040 ≤ c ∧ c ≤ 0xEBBF) := by
  simp only [kanjiLow, kanjiHigh, Bool.or_eq_true, Bool.and_eq_true, decide_eq_true_eq]

theorem validKanji_iff (bs : List Byte) :
    validKanji bs = true ↔ bs.length % 2 = 0 ∧ ∀ k < bs.length / 2,
      (0x8140 ≤ pairAt bs k ∧ pairAt bs k ≤ 0x9FFC) ∨ (0xE040 ≤ pairAt bs k ∧ pairAt bs k ≤ 0xEBBF) := by
  induction bs using validKanji.induct with
  | case1 => simp [validKanji]
  | case2 b => simp [validKanji]
  | case3 hi lo rest ih =>
    rw [validKanji, Bool.and_eq_true, kanjiLow_or_kanjiHigh_iff, ih, length_cons_cons_mod_two,
      half_length_cons_cons, Nat.forall_lt_succ_left]
    simp only [pairAt_cons_cons_zero, pairAt_cons_cons_succ]
    exact and_left_comm

/-! ## The fields by their number -/

/-- A list of values by number, of which the first is known and the others are another list's. -/
theorem map_range_succ_eq_cons {α : Type} {f g : Nat → α} (h : ∀ k, f (k + 1) = g k) (n : Nat) :
    (List.range (n + 1)).map f = f 0 :: (List.range n).map g := by
  rw [List.range_succ_eq_map, List.map_cons, List.map_map]
  exact congrArg _ (List.map_congr_left fun k _ => h k)

/-- Field `k` of Numeric mode (R144). -/
def numericField (bs : List Byte) (k : Nat) : Nat × Nat :=
  let d := fun j => (bs.getD (3 * k + j) 0).toNat - 0x30
  if 3 * k + 3 ≤ bs.length then (100 * d 0 + 10 * d 1 + d 2, 10)
  else if bs.length - 3 * k = 2 then (10 * d 0 + d 1, 7)
  else (d 0, 4)

theorem numericField_succ (a b c : Byte) (rest : List Byte) (k : Nat) :
    numericField (a :: b :: c :: rest) (k + 1) = numericField rest k := by
  have hle : 3 * (k + 1) + 3 ≤ rest.length + 3 ↔ 3 * k + 3 ≤ rest.length := by omega
  have htwo : rest.length + 3 - 3 * (k + 1) = rest.length - 3 * k := by omega
  have hget : ∀ j, (a :: b :: c :: rest).getD (3 * (k + 1) + j) 0 = rest.getD (3 * k + j) 0 := fun j => by
    rw [show 3 * (k + 1) + j = 3 * k + j + 3 by omega]; rfl
  simp only [numericField, List.length_cons, hget, htwo, hle]

theorem encNumeric_eq_map (bs : List Byte) :
    encNumeric bs = (List.range ((bs.length + 2) / 3)).map (numericField bs) := by
  induction bs using encNumeric.induct with
  | case1 a b c rest ih =>
    rw [encNumeric, ih, List.length_cons, List.length_cons, List.length_cons,
      show rest.length + 1 + 1 + 1 + 2 = rest.length + 2 + 3 by omega, Nat.add_div_right _ (by decide),
      map_range_succ_eq_cons (numericField_succ a b c rest)]
    simp [numericField, digit]
  | case2 a b => simp [encNumeric, numericField, digit]
  | case3 a => simp [encNumeric, numericField, digit]
  | case4 => simp [encNumeric]

/-- Field `k` of Alphanumeric mode, for a code of its characters (R146). -/
def alnumField (code : Byte → Nat) (bs : List Byte) (k : Nat) : Nat × Nat :=
  let c := fun j => code (bs.getD (2 * k + j) 0)
  if 2 * k + 2 ≤ bs.length then (c 0 * 45 + c 1, 11) else (c 0, 6)

theorem alnumField_succ (code : Byte → Nat) (a b : Byte) (rest : List Byte) (k : Nat) :
    alnumField code (a :: b :: rest) (k + 1) = alnumField code rest k := by
  have hle : 2 * (k + 1) + 2 ≤ rest.length + 2 ↔ 2 * k + 2 ≤ rest.length := by omega
  have hget : ∀ j, (a :: b :: rest).getD (2 * (k + 1) + j) 0 = rest.getD (2 * k + j) 0 := fun j => by
    rw [show 2 * (k + 1) + j = 2 * k + j + 2 by omega]; rfl
  simp only [alnumField, List.length_cons, hget, hle]

theorem encAlnum_eq_map {bs : List Byte} {code : Byte → Nat} (h : ∀ b ∈ bs, alnumCode b = code b) :
    encAlnum bs = (List.range ((bs.length + 1) / 2)).map (alnumField code bs) := by
  induction bs using encAlnum.induct with
  | case1 a b rest ih =>
    simp only [List.forall_mem_cons] at h
    obtain ⟨ha, hb, hrest⟩ := h
    rw [encAlnum, ih hrest, List.length_cons, List.length_cons,
      show rest.length + 1 + 1 + 1 = rest.length + 1 + 2 by omega, Nat.add_div_right _ (by decide),
      map_range_succ_eq_cons (alnumField_succ code a b rest)]
    simp [alnumField, ha, hb]
  | case2 a =>
    rw [List.forall_mem_singleton] at h
    simp [encAlnum, alnumField, h]
  | case3 => simp [encAlnum]

theorem encKanji_eq_map (bs : List Byte) :
    encKanji bs = (List.range (bs.length / 2)).map (fun k => (kanjiValue (pairAt bs k), 13)) := by
  induction bs using validKanji.induct with
  | case1 => simp [encKanji]
  | case2 b => simp
  | case3 hi lo rest ih =>
    rw [encKanji, ih, half_length_cons_cons,
      map_range_succ_eq_cons (g := fun k => (kanjiValue (pairAt rest k), 13)) fun _ => rfl, pairAt_cons_cons_zero]

/-! ## Every field fits its width -/

theorem digit_lt_ten {b : Byte} (h : 0x30 ≤ b.toNat ∧ b.toNat ≤ 0x39) : digit b < 10 := by
  rw [digit]
  omega

theorem encNumeric_fits {bs : List Byte} (h : ∀ b ∈ bs, digit b < 10) : ∀ f ∈ encNumeric bs, f.1 < 2 ^ f.2 := by
  induction bs using encNumeric.induct with
  | case1 a b c rest ih =>
    simp only [List.forall_mem_cons] at h
    obtain ⟨ha, hb, hc, hrest⟩ := h
    rw [encNumeric, List.forall_mem_cons]
    exact ⟨(by omega : 100 * digit a + 10 * digit b + digit c < 1024), ih hrest⟩
  | case2 a b =>
    rw [List.forall_mem_cons, List.forall_mem_singleton] at h
    rw [encNumeric, List.forall_mem_singleton]
    exact (by omega : 10 * digit a + digit b < 128)
  | case3 a =>
    rw [List.forall_mem_singleton] at h
    rw [encNumeric, List.forall_mem_singleton]
    exact (by omega : digit a < 16)
  | case4 => rw [encNumeric]; exact List.forall_mem_nil _

/-- A character's code by its place in the alphabet (R145). -/
theorem alnumCode_eq_idxOf {b : Byte} (h : b ∈ alphabet45) : alnumCode b = alphabet45.idxOf b := by
  obtain ⟨i, hi⟩ := Option.isSome_iff_exists.1 (List.isSome_idxOf?.2 h)
  rw [alnumCode, alnumCode?_eq_idxOf?, List.idxOf_eq_getD_idxOf?, hi, Option.getD_some, Option.getD_some]

theorem alnumCode_lt {b : Byte} (h : b ∈ alphabet45) : alnumCode b < 45 := by
  rw [alnumCode_eq_idxOf h]
  exact List.idxOf_lt_length_iff.2 h

theorem encAlnum_fits {bs : List Byte} (h : ∀ b ∈ bs, alnumCode b < 45) : ∀ f ∈ encAlnum bs, f.1 < 2 ^ f.2 := by
  induction bs using encAlnum.induct with
  | case1 a b rest ih =>
    simp only [List.forall_mem_cons] at h
    obtain ⟨ha, hb, hrest⟩ := h
    rw [encAlnum, List.forall_mem_cons]
    exact ⟨(by omega : alnumCode a * 45 + alnumCode b < 2048), ih hrest⟩
  | case2 a =>
    rw [List.forall_mem_singleton] at h
    rw [encAlnum, List.forall_mem_singleton]
    exact (by omega : alnumCode a < 64)
  | case3 => rw [encAlnum]; exact List.forall_mem_nil _

theorem encByte_fits (bs : List Byte) : ∀ f ∈ encByte bs, f.1 < 2 ^ f.2 := by
  rw [encByte, List.forall_mem_map]
  exact fun b _ => b.isLt

/-- A valid pair value less the base of its range, the ranges told apart by their bound (R149). -/
def kanjiShifted (c : Nat) : Nat := if c ≤ 0x9FFC then c - 0x8140 else c - 0xC140

theorem kanjiValue_eq {c : Nat} (h : (0x8140 ≤ c ∧ c ≤ 0x9FFC) ∨ (0xE040 ≤ c ∧ c ≤ 0xEBBF)) :
    kanjiValue c = kanjiShifted c / 256 * 0xC0 + kanjiShifted c % 256 := by
  have hlow : kanjiLow c = true ↔ c ≤ 0x9FFC := by
    rw [kanjiLow, Bool.and_eq_true, decide_eq_true_eq, decide_eq_true_eq]
    omega
  simp only [kanjiValue, kanjiShifted, hlow]

theorem kanjiValue_lt {c : Nat} (h : (0x8140 ≤ c ∧ c ≤ 0x9FFC) ∨ (0xE040 ≤ c ∧ c ≤ 0xEBBF)) : kanjiValue c < 8192 := by
  rw [kanjiValue_eq h, kanjiShifted]
  split
  · omega
  · omega

/-- A Kanji field fits its width, from the pair it encodes (R149). -/
theorem encKanji_fits {bs : List Byte} (h : validKanji bs = true) : ∀ f ∈ encKanji bs, f.1 < 2 ^ f.2 := by
  rw [encKanji_eq_map, List.forall_mem_map]
  exact fun k hk => kanjiValue_lt (((validKanji_iff bs).1 h).2 k (List.mem_range.1 hk))

/-- The fields of valid bytes fit their widths (R144 to R149). -/
theorem encFields_fits {m : Mode} {bs : List Byte} (h : validIn m bs = true) : ∀ f ∈ encFields m bs, f.1 < 2 ^ f.2 := by
  cases m with
  | numeric => exact encNumeric_fits fun b hb => digit_lt_ten ((validNumeric_iff bs).1 h b hb)
  | alphanumeric => exact encAlnum_fits fun b hb => alnumCode_lt ((validAlnum_iff bs).1 h b hb)
  | byte => exact encByte_fits bs
  | kanji => exact encKanji_fits h

/-- Settles O35: the predicates by their ranges, and the encoders' fields by their numbers. -/
theorem encodedFieldsFitTheirWidth : Obligations.EncodedFieldsFitTheirWidth := by
  refine ⟨rfl, fun m bs => encFields_fits, fun bs => ⟨validNumeric_iff bs, validAlnum_iff bs, rfl, validKanji_iff bs,
    fun _ => encNumeric_eq_map bs, fun h => ?_, rfl, fun h => ?_⟩⟩
  · exact encAlnum_eq_map fun b hb => alnumCode_eq_idxOf ((validAlnum_iff bs).1 h b hb)
  · obtain ⟨-, hpairs⟩ := (validKanji_iff bs).1 h
    exact (encKanji_eq_map bs).trans (List.map_congr_left fun k hk =>
      congrArg (·, 13) (kanjiValue_eq (hpairs k (List.mem_range.1 hk))))

end Sys2Proof.Machine

namespace Sys2Proof.Machine

/-! # The bit buffer (R172 to R177) -/

/-! ## BB_PUT -/

/-- BB_PUT of more than 32 bits is DOMAIN (R174). -/
theorem execBbPut_of_wide {s : State} (hn : 32 < s.arg1) : execBbPut s = raise .domain s := if_pos hn

/-- BB_PUT past the end of the buffer is STORE_FULL, once the number of bits is good (R174). -/
theorem execBbPut_of_full {s : State} (hn : s.arg1 ≤ 32) (hfull : 8192 < s.bbLen + s.arg1) :
    execBbPut s = raise .storeFull s :=
  (if_neg (Nat.not_lt.2 hn)).trans (if_pos hfull)

/-- BB_PUT with good operands appends the field and answers the new length (R173, R174). -/
theorem execBbPut_of_room {s : State} (hn : s.arg1 ≤ 32) (hroom : s.bbLen + s.arg1 ≤ 8192) :
    execBbPut s =
      succeed { s with bb := s.bb ++ fieldBits s.arg0 s.arg1 } (Quad.one (word (s.bbLen + s.arg1))) := by
  have hexec : execBbPut s =
      succeed { s with bb := put s.bb s.arg0 s.arg1 } (Quad.one (word (put s.bb s.arg0 s.arg1).length)) :=
    (if_neg (Nat.not_lt.2 hn)).trans (if_neg (Nat.not_lt.2 hroom))
  rw [hexec, put_length]
  rfl

/-- Bit `i` of a field of a word is the word's bit `n - 1 - i` (R173). -/
theorem fieldBits_toNat_getD {w i n : Nat} (x : BitVec w) (hi : i < n) :
    (fieldBits x.toNat n).getD i false = x.getLsbD (n - 1 - i) := by
  have hlen : i < (fieldBits x.toNat n).length := by rwa [fieldBits_length]
  rw [List.getD_eq_getElem _ _ hlen, fieldBits_getElem, BitVec.testBit_toNat]

/-- Settles O37: the two errors in their order, and the field of ARG0 where there is room. -/
theorem bbPutAppendsLowBits : Obligations.BbPutAppendsLowBits := fun s =>
  ⟨fun hn => endsWith_of_raise (execBbPut_of_wide hn), fun hn hfull => endsWith_of_raise (execBbPut_of_full hn hfull),
    fun hn hroom => ⟨fieldBits s.arg0 s.arg1, fieldBits_length _ _, fun _ hi => fieldBits_toNat_getD _ hi,
      execBbPut_of_room hn hroom⟩⟩

/-! ## BB_PUTBIT -/

/-- BB_PUTBIT on a full buffer is STORE_FULL (R175). -/
theorem execBbPutbit_of_full {s : State} (hfull : 8192 < s.bbLen + 1) : execBbPutbit s = raise .storeFull s :=
  if_pos hfull

/-- BB_PUTBIT where there is room appends a bit, 1 unless ARG0 is 0, and answers the new length (R172, R175). -/
theorem execBbPutbit_of_room {s : State} (hroom : s.bbLen + 1 ≤ 8192) :
    execBbPutbit s =
      succeed { s with bb := putBit s.bb (s.arg0 != 0) } (Quad.one (word (s.bbLen + 1))) := by
  have hexec : execBbPutbit s =
      succeed { s with bb := putBit s.bb (s.arg0 != 0) } (Quad.one (word (putBit s.bb (s.arg0 != 0)).length)) :=
    if_neg (Nat.not_lt.2 hroom)
  rw [hexec, putBit_length]
  rfl

/-- An appended bit adds to the bits that read 0 past the end (R172). -/
theorem getD_putBit (buf : List Bool) (b : Bool) (k : Nat) :
    (putBit buf b).getD k false = (buf.getD k false || (b && decide (k = buf.length))) := by
  rw [putBit]
  rcases Nat.lt_or_ge k buf.length with hlt | hge
  · rw [List.getD_append _ _ _ _ hlt, decide_eq_false hlt.ne, Bool.and_false, Bool.or_false]
  · rw [List.getD_append_right _ _ _ _ hge, List.getD_eq_default _ _ hge, Bool.false_or]
    rcases hge.eq_or_lt with rfl | hgt
    · simp
    · rw [List.getD_eq_default _ _ (Nat.le_sub_of_add_le' hgt), decide_eq_false hgt.ne', Bool.and_false]

/-- The one bit of `0x80 >> m`. -/
theorem high_bit_shift_getLsbD {m k : Nat} : ((0x80 : Byte) >>> m).getLsbD k = decide (m + k = 7) := by
  rw [BitVec.getLsbD_ushiftRight, show (0x80 : Byte) = BitVec.twoPow 8 7 from rfl, BitVec.getLsbD_twoPow]
  simp [eq_comm]

/-- An appended 0 leaves the bytes of the window as they are (R170, R172). -/
theorem bufByte_putBit_false (buf : List Bool) (i : Nat) : bufByte (putBit buf false) i = bufByte buf i :=
  BitVec.eq_of_getLsbD_eq fun k _ => by
    simp only [bufByte_getLsbD, getD_putBit, Bool.false_and, Bool.or_false]

/-- An appended bit leaves the bytes it does not fall in (R172). -/
theorem bufByte_putBit_of_ne {buf : List Bool} (b : Bool) {i : Nat} (hi : i ≠ buf.length / 8) :
    bufByte (putBit buf b) i = bufByte buf i :=
  BitVec.eq_of_getLsbD_eq fun k hk => by
    have hplace : 8 * i + (7 - k) ≠ buf.length := by omega
    simp only [bufByte_getLsbD, getD_putBit, decide_eq_false hplace, Bool.and_false, Bool.or_false]

/-- An appended 1 sets its bit of the byte it falls in (R172). -/
theorem bufByte_putBit_true (buf : List Bool) :
    bufByte (putBit buf true) (buf.length / 8) =
      bufByte buf (buf.length / 8) ||| ((0x80 : Byte) >>> (buf.length % 8)) :=
  BitVec.eq_of_getLsbD_eq fun k hk => by
    have hplace : 8 * (buf.length / 8) + (7 - k) = buf.length ↔ buf.length % 8 + k = 7 := by omega
    simp only [BitVec.getLsbD_or, high_bit_shift_getLsbD, bufByte_getLsbD, getD_putBit, decide_eq_true hk, Bool.true_and,
      hplace]

/-- The window byte an appended bit falls in, by the operand (R172, R175). -/
theorem bufByte_putBit_arg0 (s : State) :
    bufByte (putBit s.bb (s.arg0 != 0)) (s.bbLen / 8) =
      if s.arg.w0 ≠ 0 then bufByte s.bb (s.bbLen / 8) ||| ((0x80 : Byte) >>> (s.bbLen % 8))
      else bufByte s.bb (s.bbLen / 8) := by
  split
  · next hne =>
    have hbit : (s.arg0 != 0) = true := bne_iff_ne.2 fun h0 => hne (BitVec.eq_of_toNat_eq h0)
    rw [hbit]
    exact bufByte_putBit_true s.bb
  · next heq =>
    have hbit : (s.arg0 != 0) = false := by rw [State.arg0, not_not.1 heq]; rfl
    rw [hbit, bufByte_putBit_false]

/-- Settles O38: the error of a full buffer, and the bytes of the buffer with one bit more. -/
theorem bbPutbitSetsOneBitOfItsByte : Obligations.BbPutbitSetsOneBitOfItsByte := fun s =>
  ⟨fun hfull => endsWith_of_raise (execBbPutbit_of_full hfull), fun hroom =>
    ⟨putBit s.bb (s.arg0 != 0), putBit_length _ _, bufByte_putBit_arg0 s, fun _ hi => bufByte_putBit_of_ne _ hi,
      execBbPutbit_of_room hroom⟩⟩

/-! ## BB_GETBIT -/

/-- BB_GETBIT at or past the length is OUT_OF_BOUNDS (R176). -/
theorem execBbGetbit_of_past {s : State} (hpast : s.bbLen ≤ s.arg0) : execBbGetbit s = raise .outOfBounds s :=
  if_pos hpast

/-- BB_GETBIT below the length answers the bit (R176). -/
theorem execBbGetbit_of_lt {s : State} (hlt : s.arg0 < s.bbLen) :
    execBbGetbit s = succeed s (Quad.one (word (getBit s.bb s.arg0).toNat)) :=
  if_neg (Nat.not_le.2 hlt)

/-- A bit of the buffer is a bit of its byte of the window (R66, R177). -/
theorem getBit_eq_bufByte_getLsbD (buf : List Bool) (k : Nat) :
    getBit buf k = (bufByte buf (k / 8)).getLsbD (7 - k % 8) := by
  have hplace : 8 * (k / 8) + (7 - (7 - k % 8)) = k := by omega
  have hbit : 7 - k % 8 < 8 := by omega
  rw [bufByte_getLsbD, hplace, decide_eq_true hbit, Bool.true_and, getBit]

/-- A word moved right and cut to its lowest bit is the bit that came there. -/
theorem ushiftRight_and_one_eq_word (x : Word) (n : Nat) : (x >>> n) &&& 1 = word (x.getLsbD n).toNat := by
  have hbit : (x >>> n).toNat % 2 = (x.getLsbD n).toNat := by
    rw [BitVec.toNat_ushiftRight, ← BitVec.testBit_toNat, Nat.toNat_testBit, Nat.shiftRight_eq_div_pow]
  apply BitVec.eq_of_toNat_eq
  rw [BitVec.toNat_and, word_toNat, show (1 : Word).toNat = 1 from rfl, Nat.and_one_is_mod, hbit,
    Nat.mod_eq_of_lt (Bool.toNat_lt _ |>.trans (by decide))]

/-- The result of BB_GETBIT through the entry of window BB (R66, R177). -/
theorem word_getBit_eq_regValue (s : State) (k : Nat) :
    word (getBit s.bb k).toNat = ((s.regValue (.bbByte (k / 8))) >>> (7 - k % 8)) &&& 1 := by
  have hbit : 7 - k % 8 < 32 := by omega
  rw [ushiftRight_and_one_eq_word, State.regValue, word_byte_eq_setWidth, BitVec.getLsbD_setWidth, decide_eq_true hbit,
    Bool.true_and, getBit_eq_bufByte_getLsbD]

/-- Settles O39: the error of an index past the end, and the bit through its byte of the window. -/
theorem bbGetbitReadsWindowBit : Obligations.BbGetbitReadsWindowBit := fun s =>
  ⟨fun hpast => endsWith_of_raise (execBbGetbit_of_past hpast), fun hlt =>
    answers_of_succeed (word_getBit_eq_regValue s s.arg0 ▸ execBbGetbit_of_lt hlt)⟩

end Sys2Proof.Machine

namespace Sys2Proof.Machine

/-! # What a version holds: the count fields and the version selection (R182, R189, R191) -/

/-- Segments fit a version where its plan's data codewords hold their bits (R182). -/
theorem fits_iff {segs : List Segment} {v : Nat} {lvl : Level} :
    fits segs v lvl = true ↔ ∃ p, plan? v lvl = some p ∧ packedBits segs v ≤ 8 * dataTotal p := by
  cases h : plan? v lvl with
  | none => simp [fits, h]
  | some p => simp [fits, h]

/-- The largest capacity, in codewords, among the versions that share a version's count widths: those of 9-L, 26-L and 40-L
(R133, R153). -/
def bandCapacity (v : Nat) : Nat := if v ≤ 9 then 232 else if v ≤ 26 then 1370 else 2956

theorem ecTable_dataTotal_le : ∀ k < 40, ∀ l < 4, ∀ e ∈ ecTable[4 * k + l]?, dataTotal e.blocks ≤ bandCapacity (k + 1) := by
  decide +kernel

theorem dataTotal_le_bandCapacity {v : Nat} {lvl : Level} {p : List Block} (h : plan? v lvl = some p) :
    dataTotal p ≤ bandCapacity v := by
  obtain ⟨e, he, rfl⟩ := plan?_eq_some_iff.1 h
  obtain ⟨⟨h1, h40⟩, hat⟩ := ecRow?_eq_some_iff.1 he
  obtain ⟨k, rfl⟩ := Nat.exists_eq_add_of_le' h1
  exact ecTable_dataTotal_le k h40 _ lvl.code_lt e hat

/-- A count past its field costs more bits than any version of the same count width holds (R152, R153). -/
theorem bandCapacity_lt_of_count_overflow {m : Mode} {v n : Nat} (h : 2 ^ ccw m v ≤ n) :
    8 * bandCapacity v < 4 + ccw m v + segBits m n := by
  rw [bandCapacity]
  cases m with
  | numeric =>
    have hbits : 10 * (n / 3) ≤ segBits .numeric n := Nat.le_add_right _ _
    rw [ccw] at h ⊢
    split_ifs at h ⊢ <;> omega
  | alphanumeric | byte | kanji =>
    rw [ccw] at h ⊢
    rw [segBits]
    split_ifs at h ⊢ <;> omega

theorem segCost_le_packedBits {segs : List Segment} {g : Segment} (hg : g ∈ segs) (v : Nat) :
    segCost v g ≤ packedBits segs v := List.single_le_sum (fun _ _ => Nat.zero_le _) _ (List.mem_map_of_mem hg)

/-- Settles O36: a segment whose count overflows its field costs more than the capacity. -/
theorem countsFitWhereSegmentsFit : Obligations.CountsFitWhereSegmentsFit := by
  intro segs v lvl hfits g hg
  obtain ⟨p, hp, hbits⟩ := fits_iff.1 hfits
  by_contra hcount
  refine absurd (bandCapacity_lt_of_count_overflow (Nat.not_lt.1 hcount)) (Nat.not_lt.2 ?_)
  calc segCost v g ≤ packedBits segs v := segCost_le_packedBits hg v
    _ ≤ 8 * dataTotal p := hbits
    _ ≤ 8 * bandCapacity v := Nat.mul_le_mul_left 8 (dataTotal_le_bandCapacity hp)

/-- The selected version is the first of 1..40 that fits (R189). -/
theorem selectVersion?_eq_some_iff {segs : List Segment} {lvl : Level} {v : Nat} :
    selectVersion? segs lvl = some v ↔
      1 ≤ v ∧ v ≤ 40 ∧ fits segs v lvl = true ∧ ∀ u, 1 ≤ u → u < v → fits segs u lvl = false := by
  simp only [selectVersion?, vmax_eq, List.find?_range'_eq_some, List.mem_range'_1, Bool.not_eq_true']
  constructor
  · rintro ⟨hfits, ⟨h1, h41⟩, hfirst⟩
    exact ⟨h1, Nat.le_of_lt_succ (by omega), hfits, hfirst⟩
  · rintro ⟨h1, h40, hfits, hfirst⟩
    exact ⟨hfits, ⟨h1, by omega⟩, hfirst⟩

/-- No version is selected where none of 1..40 fits (R189). -/
theorem selectVersion?_eq_none_iff {segs : List Segment} {lvl : Level} :
    selectVersion? segs lvl = none ↔ ∀ v, 1 ≤ v → v ≤ 40 → fits segs v lvl = false := by
  simp only [selectVersion?, vmax_eq, List.find?_range'_eq_none, Bool.not_eq_true']
  exact forall_congr' fun v => imp_congr_right fun _ => imp_congr_left (by omega)

/-- Settles O40: the search through 1..40 in order. -/
theorem selectVersionIsFirstThatFits : Obligations.SelectVersionIsFirstThatFits := fun _ _ =>
  ⟨fun _ => selectVersion?_eq_some_iff, selectVersion?_eq_none_iff⟩

end Sys2Proof.Machine

namespace Sys2Proof.Machine

/-! # The data stream (R183 to R185) -/

/-! ## The stream's bytes and bits -/

theorem bufByte_zero (bits : List Bool) (h : 8 ≤ bits.length) : bufByte bits 0 = byteOfBits (bits.take 8) := by
  rw [bufByte]
  refine congrArg byteOfBits (List.ext_getElem (by simp [h]) fun j hj _ => ?_)
  rw [List.length_map, List.length_range] at hj
  simp [List.getD_eq_getElem?_getD, List.getElem?_eq_getElem (hj.trans_le h)]

theorem bufByte_drop (bits : List Bool) (i : Nat) : bufByte (bits.drop 8) i = bufByte bits (i + 1) := by
  have hget : ∀ j, (bits.drop 8).getD (8 * i + j) false = bits.getD (8 * (i + 1) + j) false := fun j => by
    rw [List.getD_eq_getElem?_getD, List.getElem?_drop, List.getD_eq_getElem?_getD]
    congr 2
    omega
  simp only [bufByte, hget]

/-- The bytes cut from a buffer are the bytes of its window (R14, R170). -/
theorem bytesOfBits_eq_map_bufByte {n : Nat} {bits : List Bool} (h : 8 * n ≤ bits.length) :
    bytesOfBits n bits = (List.range n).map (bufByte bits) := by
  induction n generalizing bits with
  | zero => rfl
  | succ n ih =>
    have hdrop : 8 * n ≤ (bits.drop 8).length := by rw [List.length_drop]; omega
    rw [bytesOfBits, ih hdrop, List.range_succ_eq_map, List.map_cons, List.map_map, bufByte_zero bits (by omega)]
    exact congrArg _ (List.map_congr_left fun i _ => bufByte_drop bits i)

@[simp] theorem bytesOfBits_length (n : Nat) (bits : List Bool) : (bytesOfBits n bits).length = n := by
  induction n generalizing bits with
  | zero => rfl
  | succ n ih => rw [bytesOfBits, List.length_cons, ih]

/-- Bit `k` of the bytes cut from a buffer is its bit `k` (R14). -/
theorem codewordBit_bytesOfBits {n k : Nat} {bits : List Bool} (h : 8 * n ≤ bits.length) (hk : k < 8 * n) :
    codewordBit (bytesOfBits n bits) k = bits.getD k false := by
  have hbyte : k / 8 < n := by omega
  rw [codewordBit, bytesOfBits_eq_map_bufByte h, List.getD_eq_getElem?_getD, List.getElem?_map,
    List.getElem?_range hbyte, Option.map_some, Option.getD_some, BitVec.testBit_toNat, ← getBit_eq_bufByte_getLsbD, getBit]

/-! ## Terminator and alignment -/

/-- The bytes that the buffer, the terminator and the zero bits after it fill (R183, R184). -/
def alignedBytes (len cap : Nat) : Nat := min cap ((len + 11) / 8)

/-- A buffer that fits is continued by zero bits alone, up to its aligned bytes (R183, R184). -/
theorem alignByte_putTerminator {buf : List Bool} {cap : Nat} (h : buf.length ≤ 8 * cap) :
    alignByte (putTerminator buf cap) =
      buf ++ List.replicate (8 * alignedBytes buf.length cap - buf.length) false := by
  rw [putTerminator, alignedBytes, alignByte]
  split
  · next hroom =>
    rw [put_length, put, show fieldBits 0 4 = List.replicate 4 false from rfl, List.append_assoc,
      ← List.replicate_add]
    congr 2
    omega
  · congr 2
    omega

/-! ## Pad codewords -/

/-- The value of the `k`-th pad codeword (R185). -/
def padCodeword (k : Nat) : Nat := if k % 2 = 0 then 0xEC else 0x11

theorem putPads_succ (buf : List Bool) (k n : Nat) :
    putPads buf k (n + 1) = putPads (put buf (padCodeword k) 8) (k + 1) n := rfl

@[simp] theorem putPads_length (buf : List Bool) (k n : Nat) : (putPads buf k n).length = buf.length + 8 * n := by
  induction n generalizing buf k with
  | zero => rfl
  | succ n ih => rw [putPads_succ, ih, put_length]; omega

/-- Bits put after a buffer leave the buffer's own (R173). -/
theorem getD_put_of_lt {buf : List Bool} {j : Nat} (value n : Nat) (hj : j < buf.length) :
    (put buf value n).getD j false = buf.getD j false := List.getD_append _ _ _ _ hj

theorem getD_put_of_ge {buf : List Bool} {value n j : Nat} (hge : buf.length ≤ j) (hlt : j < buf.length + n) :
    (put buf value n).getD j false = value.testBit (n - 1 - (j - buf.length)) := by
  have hfield : j - buf.length < (fieldBits value n).length := by rw [fieldBits_length]; omega
  rw [put, List.getD_append_right _ _ _ _ hge, List.getD_eq_getElem _ _ hfield, fieldBits_getElem]

theorem getD_putPads_of_lt {buf : List Bool} {j : Nat} (k n : Nat) (hj : j < buf.length) :
    (putPads buf k n).getD j false = buf.getD j false := by
  induction n generalizing buf k with
  | zero => rfl
  | succ n ih => rw [putPads_succ, ih _ (by rw [put_length]; omega), getD_put_of_lt _ _ hj]

/-- The bits after the buffer are those of the pad codewords in turn (R185). -/
theorem getD_putPads_of_ge {buf : List Bool} {k n j : Nat} (hge : buf.length ≤ j) (hlt : j < buf.length + 8 * n) :
    (putPads buf k n).getD j false = (padCodeword (k + (j - buf.length) / 8)).testBit (7 - (j - buf.length) % 8) := by
  induction n generalizing buf k with
  | zero => omega
  | succ n ih =>
    rw [putPads_succ]
    rcases Nat.lt_or_ge j (buf.length + 8) with hfirst | hrest
    · have hzero : (j - buf.length) / 8 = 0 := by omega
      have hmod : (j - buf.length) % 8 = j - buf.length := by omega
      rw [getD_putPads_of_lt _ _ (by rwa [put_length]), getD_put_of_ge hge hfirst, hzero, hmod, Nat.add_zero]
    · have hindex : k + 1 + (j - (buf.length + 8)) / 8 = k + (j - buf.length) / 8 := by omega
      have hmod : (j - (buf.length + 8)) % 8 = (j - buf.length) % 8 := by omega
      rw [ih (by rwa [put_length]) (by rw [put_length]; omega), put_length, hindex, hmod]

/-! ## The stream -/

/-- The zeros end at the aligned bytes of a buffer that fits, which hold it and fit too (R183, R184). -/
theorem alignedBytes_bounds {len cap : Nat} (h : len ≤ 8 * cap) :
    len ≤ 8 * alignedBytes len cap ∧ alignedBytes len cap ≤ cap := by
  rw [alignedBytes]
  omega

theorem alignByte_putTerminator_length {buf : List Bool} {cap : Nat} (h : buf.length ≤ 8 * cap) :
    (alignByte (putTerminator buf cap)).length = 8 * alignedBytes buf.length cap := by
  rw [alignByte_putTerminator h, List.length_append, List.length_replicate, Nat.add_sub_cancel' (alignedBytes_bounds h).1]

@[simp] theorem dataStream_length (buf : List Bool) (cap : Nat) : (dataStream buf cap).length = cap := bytesOfBits_length _ _

/-- The bits of the stream are those of the aligned buffer with its pad codewords (R185). -/
theorem codewordBit_dataStream {buf : List Bool} {cap k : Nat} (h : buf.length ≤ 8 * cap) (hk : k < 8 * cap) :
    codewordBit (dataStream buf cap) k =
      (putPads (alignByte (putTerminator buf cap)) 0 (cap - alignedBytes buf.length cap)).getD k false := by
  have hlen := alignByte_putTerminator_length h
  obtain ⟨-, hcap⟩ := alignedBytes_bounds h
  have hpads : (8 * cap - (alignByte (putTerminator buf cap)).length) / 8 = cap - alignedBytes buf.length cap := by
    rw [hlen]
    omega
  rw [dataStream, padTo, hpads]
  exact codewordBit_bytesOfBits (by rw [putPads_length, hlen]; omega) hk

/-- Settles O41: the bits before the buffer's end, up to its aligned bytes, and after them. -/
theorem dataStreamIsBufferZerosAndPads : Obligations.DataStreamIsBufferZerosAndPads := by
  intro buf cap h
  refine ⟨dataStream_length buf cap, fun k hk => ?_⟩
  have hlen := alignByte_putTerminator_length h
  obtain ⟨hbuf, hcap⟩ := alignedBytes_bounds h
  rw [codewordBit_dataStream h hk, ← alignedBytes, ← padCodeword]
  split_ifs with hin hzero
  · rw [getD_putPads_of_lt _ _ (by omega), alignByte_putTerminator h, List.getD_append _ _ _ _ hin]
  · rw [getD_putPads_of_lt _ _ (by omega), alignByte_putTerminator h, List.getD_append_right _ _ _ _ (Nat.not_lt.1 hin),
      List.getD_replicate _ (by omega)]
  · have hindex : 0 + (k - 8 * alignedBytes buf.length cap) / 8 = k / 8 - alignedBytes buf.length cap := by omega
    have hmod : (k - 8 * alignedBytes buf.length cap) % 8 = k % 8 := by omega
    rw [getD_putPads_of_ge (by omega) (by omega), hlen, hindex, hmod]

end Sys2Proof.Machine

namespace Sys2Proof.Machine

/-! # Interleaving and the whole assembly (R186 to R191) -/

/-! ## Columns of the blocks -/

/-- Column `i` of the blocks: byte `i` of every block that reaches it (R188). -/
def column (blocks : List (List Byte)) (i : Nat) : List Byte := blocks.filterMap (fun b => b[i]?)

/-- The columns of an interleaving are taken in order (R188). -/
theorem interleave_succ (n : Nat) (blocks : List (List Byte)) :
    interleave (n + 1) blocks = interleave n blocks ++ column blocks n := by
  rw [interleave, List.range_succ, List.flatMap_append, List.flatMap_singleton]
  rfl

theorem column_length (blocks : List (List Byte)) (i : Nat) :
    (column blocks i).length = blocks.countP (fun b => i < b.length) := by
  rw [column, List.length_filterMap_eq_countP]
  exact List.countP_congr fun b _ => by simp only [isSome_getElem?, decide_eq_true_eq]

/-- The byte of block `k` stands in a column after those of the blocks before that reach it (R188). -/
theorem column_getElem? {blocks : List (List Byte)} {k i : Nat} {b : List Byte} (hb : blocks[k]? = some b)
    (hi : i < b.length) : (column blocks i)[(blocks.take k).countP (fun c => i < c.length)]? = b[i]? := by
  obtain ⟨hk, rfl⟩ := List.getElem?_eq_some_iff.1 hb
  have hsplit : column blocks i = column (blocks.take k) i ++ column (blocks[k] :: blocks.drop (k + 1)) i := by
    rw [column, column, column, ← List.filterMap_append, ← List.drop_eq_getElem_cons hk, List.take_append_drop]
  rw [hsplit, ← column_length, List.getElem?_append_right le_rfl, Nat.sub_self, column, List.getElem?_eq_getElem hi,
    List.filterMap_cons_some (f := fun b => b[i]?) (List.getElem?_eq_getElem hi), List.getElem?_cons_zero]

/-- A column adds a byte for every block that reaches it. -/
theorem sum_min_succ (blocks : List (List Byte)) (i : Nat) :
    (blocks.map (fun b => min b.length (i + 1))).sum =
      (blocks.map (fun b => min b.length i)).sum + blocks.countP (fun b => i < b.length) := by
  induction blocks with
  | nil => rfl
  | cons b bs ih =>
    rw [List.map_cons, List.sum_cons, ih, List.map_cons, List.sum_cons, List.countP_cons]
    simp only [decide_eq_true_eq]
    split <;> omega

theorem interleave_length (n : Nat) (blocks : List (List Byte)) :
    (interleave n blocks).length = (blocks.map (fun b => min b.length n)).sum := by
  induction n with
  | zero => simp [interleave]
  | succ n ih => rw [interleave_succ, List.length_append, ih, column_length, sum_min_succ]

/-- Enough columns take every byte (R188). -/
theorem interleave_length_of_le {n : Nat} {blocks : List (List Byte)} (h : ∀ b ∈ blocks, b.length ≤ n) :
    (interleave n blocks).length = (blocks.map List.length).sum := by
  rw [interleave_length]
  exact congrArg List.sum (List.map_congr_left fun b hb => Nat.min_eq_left (h b hb))

/-- More columns continue an interleaving (R188). -/
theorem interleave_eq_append_of_le {m n : Nat} (h : m ≤ n) (blocks : List (List Byte)) :
    ∃ rest, interleave n blocks = interleave m blocks ++ rest := by
  induction n, h using Nat.le_induction with
  | base => exact ⟨[], (List.append_nil _).symm⟩
  | succ n _ ih =>
    obtain ⟨rest, hrest⟩ := ih
    exact ⟨rest ++ column blocks n, by rw [interleave_succ, hrest, List.append_assoc]⟩

/-- Settles O42: the columns before `i` are the interleaving of `i` columns, and column `i` follows. -/
theorem interleavePlacesEachByte : Obligations.InterleavePlacesEachByte := by
  intro n blocks h
  refine ⟨interleave_length_of_le h, fun k i b hb hi => ?_⟩
  have hin : i + 1 ≤ n := hi.trans_le (h b (List.mem_of_getElem? hb))
  have hcolumn := column_getElem? hb hi
  have hlt := (List.getElem?_eq_some_iff.1 (hcolumn.trans (List.getElem?_eq_getElem hi))).1
  obtain ⟨rest, hrest⟩ := interleave_eq_append_of_le hin blocks
  rw [hrest, interleave_succ, List.append_assoc, ← interleave_length,
    List.getElem?_append_right (Nat.le_add_right _ _), Nat.add_sub_cancel_left, List.getElem?_append_left hlt, hcolumn]

/-! ## The split and the codewords -/

/-- The split gives every block its data count (R186). -/
theorem splitBlocks_lengths {stream : List Byte} {p : List Block} (h : dataTotal p ≤ stream.length) :
    (splitBlocks stream p).map List.length = p.map Block.data := by
  induction p generalizing stream with
  | nil => rfl
  | cons b bs ih =>
    rw [dataTotal, List.map_cons, List.sum_cons, ← dataTotal] at h
    rw [splitBlocks, List.map_cons, List.map_cons, ih (by rw [List.length_drop]; omega), List.length_take,
      Nat.min_eq_left (by omega)]

/-- The split loses nothing of a stream that fills the plan (R186). -/
theorem splitBlocks_flatten {stream : List Byte} {p : List Block} (h : stream.length = dataTotal p) :
    (splitBlocks stream p).flatten = stream := by
  induction p generalizing stream with
  | nil => exact (List.eq_nil_of_length_eq_zero h).symm
  | cons b bs ih =>
    rw [dataTotal, List.map_cons, List.sum_cons, ← dataTotal] at h
    rw [splitBlocks, List.flatten_cons, ih (by rw [List.length_drop]; omega), List.take_append_drop]

/-- Every block has its EC count of EC codewords (R187). -/
theorem ecBlocks_lengths {p : List Block} {data : List (List Byte)} (h : data.length = p.length) :
    (ecBlocks p data).map List.length = p.map Block.ec := by
  calc (ecBlocks p data).map List.length = List.zipWith (fun b _ => b.ec) p data := by
        simp only [ecBlocks, List.map_zipWith, rsEc_length]
    _ = ((p.zip data).map Prod.fst).map Block.ec := by
        rw [List.map_map, List.map_zip_eq_zipWith]
        rfl
    _ = p.map Block.ec := by rw [List.map_fst_zip h.ge]

theorem le_foldl_max {ns : List Nat} {n : Nat} (h : n ∈ ns) : n ≤ ns.foldl max 0 := by
  rw [List.foldl_eq_foldr]
  exact List.le_max_of_le' 0 h le_rfl

/-- As many columns as the longest of the blocks take every byte of them (R188). -/
theorem interleave_foldl_max_length (blocks : List (List Byte)) {ns : List Nat} (h : blocks.map List.length = ns) :
    (interleave (ns.foldl max 0) blocks).length = ns.sum := by
  subst h
  exact interleave_length_of_le fun b hb => le_foldl_max (List.mem_map_of_mem hb)

/-- The codewords of a stream that fills the plan number its data and EC codewords (R188). -/
theorem codewords_length {p : List Block} {stream : List Byte} (h : stream.length = dataTotal p) :
    (codewords p stream).length = dataTotal p + ecTotal p := by
  have hdata := splitBlocks_lengths h.ge
  have hcount : (splitBlocks stream p).length = p.length := by simpa using congrArg List.length hdata
  rw [codewords, List.length_append, maxData, interleave_foldl_max_length _ hdata, maxEc,
    interleave_foldl_max_length _ (ecBlocks_lengths hcount), dataTotal, ecTotal]

/-- A successful assembly has a plan whose capacity holds the packed bits, and answers their codewords and number (R190). -/
theorem assemble_eq_ok {segs : List Segment} {v : Nat} {lvl : Level} {cw : List Byte} {db : Nat}
    (h : assemble segs v lvl = .ok (cw, db)) :
    ∃ p, plan? v lvl = some p ∧ packedBits segs v ≤ 8 * dataTotal p ∧ db = packedBits segs v ∧
      cw = codewords p (dataStream (pack segs v) (dataTotal p)) := by
  unfold assemble at h
  split at h
  · cases h
  · next p hp =>
    simp only [pack_length] at h
    split at h
    · cases h
    · next hfits =>
      cases h
      exact ⟨p, hp, Nat.not_lt.1 hfits, rfl, rfl⟩

/-- The codewords of a plan fill the raw capacity of its version (R137, R191). -/
theorem plan_totals {v : Nat} {lvl : Level} {p : List Block} (h : plan? v lvl = some p) :
    dataTotal p + ecTotal p = cwTotal p ∧ cwTotal p = rawModules v / 8 := by
  obtain ⟨e, he, -⟩ := plan?_eq_some_iff.1 h
  obtain ⟨⟨h1, h40⟩, -⟩ := ecRow?_eq_some_iff.1 he
  obtain ⟨-, p', -, hp', htotal, hraw, -⟩ := capacityTableProperties v lvl h1 h40
  obtain rfl := Option.some.inj (h.symm.trans hp')
  exact ⟨htotal, hraw⟩

/-- Settles O43: the split of the stream gives the blocks, and their counts add up to the plan's total. -/
theorem assemblyFillsSymbol : Obligations.AssemblyFillsSymbol := by
  intro segs v lvl cw db h
  obtain ⟨p, hp, hfits, rfl, rfl⟩ := assemble_eq_ok h
  obtain ⟨htotal, hraw⟩ := plan_totals hp
  have hstream := dataStream_length (pack segs v) (dataTotal p)
  have hlen := (codewords_length hstream).trans htotal
  exact ⟨p, hp, hlen, hlen.trans hraw, rfl, hfits, splitBlocks _ p, splitBlocks_lengths hstream.ge,
    splitBlocks_flatten hstream, rfl⟩

end Sys2Proof.Machine

namespace Sys2Proof.Machine

/-! # FORMAT_BITS, VERSION_BITS and ALIGN_POS (R206, R209, R212 to R214) -/

/-! ## Products over GF(2) -/

theorem foldl_shifts_xor (b x y a c : Nat) (ks : List Nat) :
    ks.foldl (fun acc k => if b.testBit k then acc ^^^ ((a ^^^ c) <<< k) else acc) (x ^^^ y) =
      ks.foldl (fun acc k => if b.testBit k then acc ^^^ (a <<< k) else acc) x ^^^
        ks.foldl (fun acc k => if b.testBit k then acc ^^^ (c <<< k) else acc) y := by
  induction ks generalizing x y with
  | nil => rfl
  | cons k ks ih =>
    simp only [List.foldl_cons]
    split
    · rw [Nat.shiftLeft_xor_distrib, ← ih]
      congr 1
      ac_rfl
    · exact ih x y

/-- A product over GF(2) distributes over XOR. -/
theorem carrylessMul_xor (a c b : Nat) : carrylessMul (a ^^^ c) b = carrylessMul a b ^^^ carrylessMul c b :=
  foldl_shifts_xor b 0 0 a c (List.range 16)

theorem foldl_shifts_shiftLeft (b x a n : Nat) (ks : List Nat) :
    ks.foldl (fun acc k => if b.testBit k then acc ^^^ (a <<< n <<< k) else acc) (x <<< n) =
      ks.foldl (fun acc k => if b.testBit k then acc ^^^ (a <<< k) else acc) x <<< n := by
  induction ks generalizing x with
  | nil => rfl
  | cons k ks ih =>
    simp only [List.foldl_cons]
    split
    · rw [← ih, Nat.shiftLeft_xor_distrib, ← Nat.shiftLeft_add, ← Nat.shiftLeft_add, Nat.add_comm]
    · exact ih x

theorem carrylessMul_shiftLeft (a n b : Nat) : carrylessMul (a <<< n) b = carrylessMul a b <<< n := by
  rw [carrylessMul, ← Nat.zero_shiftLeft n, foldl_shifts_shiftLeft, carrylessMul]

/-! ## The remainder loop -/

/-- The loop only adds multiples of its divisor, one whose degree is below the 16 bits a product looks at (R206). -/
theorem bchLoop_congr {g : Nat} (hg : carrylessMul 1 g = g) (fuel d : Nat) :
    ∃ q, bchLoop g fuel d = d ^^^ carrylessMul q g := by
  induction fuel generalizing d with
  | zero => exact ⟨0, by rw [bchLoop]; simp [carrylessMul]⟩
  | succ fuel ih =>
    rw [bchLoop]
    split
    · obtain ⟨q, hq⟩ := ih (d ^^^ g <<< (d.log2 - g.log2))
      refine ⟨1 <<< (d.log2 - g.log2) ^^^ q, ?_⟩
      rw [hq, carrylessMul_xor, carrylessMul_shiftLeft, hg, Nat.xor_assoc]
    · exact ⟨0, by simp [carrylessMul]⟩

theorem log2_shiftLeft {a : Nat} (ha : a ≠ 0) (k : Nat) : (a <<< k).log2 = a.log2 + k := by
  induction k with
  | zero => rfl
  | succ k ih =>
    rw [Nat.shiftLeft_succ, Nat.log2_two_mul (by simpa using ha), ih, Nat.add_assoc]

/-- Numbers with the same leading bit cancel it. -/
theorem xor_lt_two_pow_log2 {a b : Nat} (ha : a ≠ 0) (hb : b ≠ 0) (h : a.log2 = b.log2) : a ^^^ b < 2 ^ a.log2 := by
  refine Nat.lt_pow_two_of_testBit _ fun i hi => ?_
  rw [Nat.testBit_xor]
  rcases hi.eq_or_lt with rfl | hlt
  · rw [Nat.testBit_log2 ha, h, Nat.testBit_log2 hb]; rfl
  · rw [Nat.testBit_lt_two_pow ((Nat.log2_lt ha).1 hlt), Nat.testBit_lt_two_pow ((Nat.log2_lt hb).1 (h ▸ hlt))]; rfl

/-- Once its fuel covers the degree, the loop ends below the divisor's degree (R206). -/
theorem bchLoop_lt {g : Nat} (hg : g ≠ 0) {fuel d : Nat} (hd : d < 2 ^ fuel) : bchLoop g fuel d < 2 ^ g.log2 := by
  induction fuel generalizing d with
  | zero =>
    rw [bchLoop]
    exact hd.trans_le (Nat.one_le_two_pow)
  | succ fuel ih =>
    rw [bchLoop]
    split
    · next h =>
      obtain ⟨hne, hle⟩ := h
      have hlog : (g <<< (d.log2 - g.log2)).log2 = d.log2 := by
        rw [log2_shiftLeft hg]; omega
      refine ih ((xor_lt_two_pow_log2 hne (by simp [hg]) hlog.symm).trans_le ?_)
      have := (Nat.log2_lt hne).2 hd
      exact Nat.pow_le_pow_right (by decide) (by omega)
    · next h =>
      by_cases hne : d = 0
      · subst hne; exact Nat.two_pow_pos _
      · exact (Nat.log2_lt hne).1 (by omega)

/-- Low bits under a shifted number: nothing overlaps. -/
theorem shiftLeft_or_eq_xor {b k : Nat} (a : Nat) (hb : b < 2 ^ k) : a <<< k ||| b = a <<< k ^^^ b := by
  refine Nat.eq_of_testBit_eq fun i => ?_
  rw [Nat.testBit_or, Nat.testBit_xor, Nat.testBit_shiftLeft]
  by_cases hi : k ≤ i
  · rw [Nat.testBit_lt_two_pow (hb.trans_le (Nat.pow_le_pow_right (by decide) hi)), Bool.or_false, Bool.xor_false]
  · simp [hi]

/-- The data bits stand above their remainder, and together they are a multiple of the divisor (R206). -/
theorem bchWord_eq_carrylessMul {g k : Nat} (hg : carrylessMul 1 g = g) (hne : g ≠ 0) (hk : g.log2 = k) (data : Nat) :
    bchRem data g k < 2 ^ k ∧ ∃ q, data <<< k ||| bchRem data g k = carrylessMul q g := by
  subst hk
  have hlt : bchRem data g g.log2 < 2 ^ g.log2 := bchLoop_lt hne Nat.lt_log2_self
  obtain ⟨q, hq⟩ := bchLoop_congr hg ((data <<< g.log2).log2 + 1) (data <<< g.log2)
  refine ⟨hlt, q, ?_⟩
  rw [shiftLeft_or_eq_xor data hlt, bchRem, hq, Nat.xor_xor_cancel_left]

/-- The remainder's bits are the low ones, so the data stands on top (R206). -/
theorem bchWord_shiftRight {b k : Nat} (data : Nat) (hb : b < 2 ^ k) : (data <<< k ||| b) >>> k = data := by
  rw [Nat.or_comm, or_shiftLeft_eq_add data hb, Nat.shiftRight_eq_div_pow, Nat.add_mul_div_left _ _ (Nat.two_pow_pos k),
    Nat.div_eq_of_lt hb, Nat.zero_add]

theorem bchWord_lt {b k n data : Nat} (hd : data < 2 ^ n) (hb : b < 2 ^ k) : data <<< k ||| b < 2 ^ (n + k) := by
  refine Nat.or_lt_two_pow ?_ ?_
  · rw [Nat.shiftLeft_eq, pow_add]
    exact Nat.mul_lt_mul_of_pos_right hd (Nat.two_pow_pos k)
  · exact hb.trans_le (Nat.pow_le_pow_right (by decide) (Nat.le_add_left k n))

/-! ## The words -/

theorem ecIndicator_eq (lvl : Level) : ecIndicator lvl = [0b01, 0b00, 0b11, 0b10].getD lvl.code 0 := by cases lvl <;> rfl

/-- The five data bits of the format word: the indicator over the mask index (R206). -/
theorem formatData_eq (lvl : Level) {m : Nat} (hm : m < 8) : ecIndicator lvl <<< 3 ||| m = ecIndicator lvl * 8 + m := by
  rw [Nat.or_comm, or_shiftLeft_eq_add (k := 3) _ hm]
  omega

/-- The format word without its mask (R206): data on top, and a multiple of G15. -/
theorem formatWord_spec (lvl : Level) {m : Nat} (hm : m < 8) :
    formatWord lvl m < 2 ^ 15 ∧ (formatWord lvl m ^^^ 0x5412) >>> 10 = ecIndicator lvl * 8 + m ∧
      ∃ q, formatWord lvl m ^^^ 0x5412 = carrylessMul q 0x537 := by
  obtain ⟨hlt, hq⟩ := bchWord_eq_carrylessMul (g := g15) (k := 10) (by decide) (by decide) (by decide)
    (ecIndicator lvl * 8 + m)
  have hdata : ecIndicator lvl * 8 + m < 2 ^ 5 := by
    cases lvl <;> simp only [ecIndicator] <;> omega
  rw [formatWord, formatData_eq lvl hm, g15Mask, Nat.xor_xor_cancel_right]
  exact ⟨Nat.xor_lt_two_pow (bchWord_lt hdata hlt) (by decide), bchWord_shiftRight _ hlt, hq⟩

/-- The version word: the version on top, and a multiple of G18 (R209). -/
theorem versionWord_spec {v : Nat} (hv : v ≤ 40) :
    versionWord v < 2 ^ 18 ∧ versionWord v >>> 12 = v ∧ ∃ q, versionWord v = carrylessMul q 0x1F25 := by
  obtain ⟨hlt, hq⟩ := bchWord_eq_carrylessMul (g := g18) (k := 12) (by decide) (by decide) (by decide) v
  exact ⟨bchWord_lt (n := 6) (by omega) hlt, bchWord_shiftRight v hlt, hq⟩

/-! ## The commands -/

theorem Level.ofCode?_eq_none {n : Nat} (h : 3 < n) : Level.ofCode? n = none := by
  refine Option.eq_none_iff_forall_ne_some.2 fun lvl hlvl => ?_
  have := lvl.code_lt
  rw [Level.ofCode?_eq_some_iff] at hlvl
  omega

theorem maskIndex?_eq_none {n : Nat} (h : 7 < n) : maskIndex? n = none := dif_neg (by omega)

theorem exists_level_code {n : Nat} (h : n ≤ 3) : ∃ lvl : Level, n = lvl.code := by
  have hall : ∀ k < 4, ∃ lvl ∈ [Level.low, .medium, .quartile, .high], k = lvl.code := by decide
  obtain ⟨lvl, -, hlvl⟩ := hall n (by omega)
  exact ⟨lvl, hlvl⟩

/-- FORMAT_BITS with a level code above 3 or a mask index above 7 is DOMAIN (R212). -/
theorem execFormatBits_of_outOfRange {s : State} (h : 3 < s.arg0 ∨ 7 < s.arg1) : execFormatBits s = raise .domain s := by
  rw [execFormatBits]
  rcases h with h | h
  · rw [Level.ofCode?_eq_none h]
  · rw [maskIndex?_eq_none h]
    cases Level.ofCode? s.arg0 <;> rfl

/-- FORMAT_BITS of a level and a mask index gives their word (R212). -/
theorem execFormatBits_of_level {s : State} {lvl : Level} (hlvl : s.arg0 = lvl.code) (hm : s.arg1 < 8) :
    execFormatBits s = succeed s (Quad.one (word (formatWord lvl s.arg1))) := by
  rw [execFormatBits, hlvl, Level.ofCode?_code, (maskIndex?_eq_some (m := ⟨s.arg1, hm⟩)).2 rfl]

/-- Settles O44: the remainder loop only adds shifted divisors and ends below the divisor's degree, so data over remainder is
a multiple with the data on top. -/
theorem formatAndVersionWordsAreBch : Obligations.FormatAndVersionWordsAreBch := by
  intro s
  refine ⟨fun h => endsWith_of_raise (execFormatBits_of_outOfRange h), fun h0 h1 => ?_,
    fun h => endsWith_of_raise (if_neg ?_), fun h7 h40 => ?_⟩
  · obtain ⟨lvl, hlvl⟩ := exists_level_code h0
    have hm : s.arg1 < 8 := Nat.lt_succ_of_le h1
    obtain ⟨hlt, htop, q, hq⟩ := formatWord_spec lvl hm
    rw [ecIndicator_eq, ← hlvl] at htop
    exact ⟨_, q, hlt, htop, hq, answers_of_succeed (execFormatBits_of_level hlvl hm)⟩
  · rw [State.arg0, vmax_eq]
    omega
  · obtain ⟨hlt, htop, q, hq⟩ := versionWord_spec h40
    exact ⟨_, q, hlt, htop, hq, answers_of_succeed (if_pos ⟨h7, h40⟩)⟩

/-! ## ALIGN_POS -/

/-- Every coordinate fits a byte, and a version has at most seven (R203, R214). -/
theorem alignTable_bounds : ∀ p ∈ alignTable, p.length ≤ 7 ∧ ∀ q ∈ p, q < 256 := by decide +kernel

theorem alignCoords_mem_table {v : Nat} (h1 : 1 ≤ v) (h40 : v ≤ 40) : alignCoords v ∈ alignTable := by
  have hlen : alignTable.length = 40 := by decide
  have hi : v - 1 < alignTable.length := by omega
  rw [alignCoords, List.getD_eq_getElem _ _ hi]
  exact List.getElem_mem hi

theorem packCoords_succ (p : List Nat) (j n : Nat) :
    packCoords p j (n + 1) = packCoords p j n ||| p.getD (j + n) 0 <<< (8 * n) := by
  simp only [packCoords, List.range_succ, List.map_append, List.map_cons, List.map_nil, List.foldl_append,
    List.foldl_cons, List.foldl_nil]

/-- A packing of bytes holds each in its place, and nothing above them (R214). -/
theorem packCoords_spec {p : List Nat} (hp : ∀ k, p.getD k 0 < 256) (j n : Nat) :
    packCoords p j n < 2 ^ (8 * n) ∧ ∀ i < n, (packCoords p j n >>> (8 * i)) % 256 = p.getD (j + i) 0 := by
  induction n with
  | zero => exact ⟨Nat.one_pos, fun i hi => absurd hi (Nat.not_lt_zero i)⟩
  | succ n ih =>
    obtain ⟨hlt, hbyte⟩ := ih
    have hnext := hp (j + n)
    rw [packCoords_succ, or_shiftLeft_eq_add _ hlt]
    refine ⟨?_, fun i hi => ?_⟩
    · rw [Nat.mul_succ, pow_add]
      nlinarith
    · rw [Nat.shiftRight_eq_div_pow]
      rcases Nat.lt_succ_iff_lt_or_eq.1 hi with hin | rfl
      · obtain ⟨m, rfl⟩ := Nat.exists_eq_add_of_lt hin
        have hpow : 2 ^ (8 * (i + m + 1)) = 2 ^ (8 * i) * (256 * 2 ^ (8 * m)) := by ring
        rw [← hbyte i hin, Nat.shiftRight_eq_div_pow, hpow, Nat.mul_assoc, Nat.add_mul_div_left _ _ (Nat.two_pow_pos _),
          Nat.mul_assoc, Nat.add_mul_mod_self_left]
      · rw [Nat.add_mul_div_left _ _ (Nat.two_pow_pos _), Nat.div_eq_of_lt hlt]
        omega

/-- Settles O45: a packing of at most four bytes fits its result, and each byte keeps its place. -/
theorem alignPosListsCoordinates : Obligations.AlignPosListsCoordinates := by
  intro s
  refine ⟨fun h => endsWith_of_raise (if_neg ?_), fun h1 h40 => ?_⟩
  · rw [versionOk_iff, State.arg0]
    omega
  · obtain ⟨hlen, hbytes⟩ := alignTable_bounds _ (alignCoords_mem_table h1 h40)
    have hp : ∀ k, (alignCoords s.arg0).getD k 0 < 256 := fun k => by
      rcases lt_or_ge k (alignCoords s.arg0).length with hk | hk
      · rw [List.getD_eq_getElem _ _ hk]
        exact hbytes _ (List.getElem_mem hk)
      · rw [List.getD_eq_default _ _ hk]
        decide
    obtain ⟨hlow, hlowByte⟩ := packCoords_spec hp 0 4
    obtain ⟨hhigh, hhighByte⟩ := packCoords_spec hp 4 3
    refine ⟨_, answers_of_succeed (if_pos ((versionOk_iff _).2 ⟨h1, h40⟩)), rfl, fun j hj => ?_, fun j hj => ?_, rfl⟩
    · rw [word_toNat, Nat.mod_eq_of_lt hlow, hlowByte j hj, Nat.zero_add]
      rfl
    · rw [word_toNat, Nat.mod_eq_of_lt (hhigh.trans (by decide))]
      rcases Nat.lt_succ_iff_lt_or_eq.1 hj with hj | rfl
      · exact hhighByte j hj
      · rw [Nat.shiftRight_eq_zero _ _ hhigh]
        exact (List.getD_eq_default _ _ hlen).symm

end Sys2Proof.Machine

namespace Sys2Proof.Machine

/-! # Cells of a written grid (R16, R44, R200) -/

/-- A grid whose rows and columns in use number `n` (R44). -/
structure Grid.Square (g : Grid) (n : Nat) : Prop where
  length_eq : g.length = n
  row_length : ∀ row ∈ g, row.length = n

theorem Grid.blank_square (n : Nat) : (Grid.blank n).Square n :=
  ⟨Grid.blank_length n, fun row hrow => by rw [List.eq_of_mem_replicate hrow, List.length_replicate]⟩

theorem Grid.Square.setCell {g : Grid} {n : Nat} (h : g.Square n) (r c : Nat) (m : Module) : (g.setCell r c m).Square n :=
  ⟨(g.setCell_length r c m).trans h.length_eq, Grid.setCell_rows h.row_length r c m⟩

theorem Grid.Square.write {g : Grid} {n : Nat} (h : g.Square n) (ws : List (Nat × Nat × Module)) : (g.write ws).Square n := by
  induction ws generalizing g with
  | nil => exact h
  | cons w ws ih => exact ih (h.setCell w.1 w.2.1 w.2.2)

theorem Grid.write_append (g : Grid) (ws ws' : List (Nat × Nat × Module)) :
    g.write (ws ++ ws') = (g.write ws).write ws' := by
  induction ws generalizing g with
  | nil => rfl
  | cons w ws ih => exact ih _

@[simp] theorem Grid.cell_blank (n r c : Nat) : (Grid.blank n).cell r c = .unset := by
  rcases lt_or_ge r n with hr | hr
  · rw [Grid.cell, Grid.blank, List.getD_replicate _ hr, List.getD_eq_getElem?_getD, List.getElem?_getD_replicate_default_eq]
  · rw [Grid.cell, List.getD_eq_default _ _ ((Grid.blank_length n).trans_le hr), List.getD_nil]

/-- A write sets its own cell and leaves every other (R16). -/
theorem Grid.cell_setCell {g : Grid} {n r c : Nat} (h : g.Square n) (hr : r < n) (hc : c < n) (r' c' : Nat) (m : Module) :
    (g.setCell r' c' m).cell r c = if r' = r ∧ c' = c then m else g.cell r c := by
  obtain ⟨hlen, hrows⟩ := h
  have hr' : r < g.length := hlen ▸ hr
  have hc' : c < (g[r]).length := hrows _ (List.getElem_mem hr') ▸ hc
  by_cases hrr : r' = r
  · subst hrr
    by_cases hcc : c' = c <;> simp [Grid.cell, Grid.setCell, hr', hc', hcc]
  · simp [Grid.cell, Grid.setCell, hrr]

/-- A list of writes names a cell. -/
def Names (ws : List (Nat × Nat × Module)) (r c : Nat) : Prop := ∃ m, (r, c, m) ∈ ws

theorem names_append {ws ws' : List (Nat × Nat × Module)} {r c : Nat} :
    Names (ws ++ ws') r c ↔ Names ws r c ∨ Names ws' r c := by
  simp only [Names, List.mem_append, exists_or]

/-- A cell that has a value, or that a list writes with it, has it after the list if the list writes no other there (R16). -/
theorem Grid.cell_write_eq {g : Grid} {n r c : Nat} (h : g.Square n) (hr : r < n) (hc : c < n)
    {ws : List (Nat × Nat × Module)} {m : Module} (hm : g.cell r c = m ∨ (r, c, m) ∈ ws)
    (hone : ∀ m', (r, c, m') ∈ ws → m' = m) : (g.write ws).cell r c = m := by
  induction ws generalizing g with
  | nil => exact hm.resolve_right List.not_mem_nil
  | cons w ws ih =>
    obtain ⟨r', c', m'⟩ := w
    refine ih (h.setCell r' c' m') ?_ fun m'' hm'' => hone m'' (List.mem_cons_of_mem _ hm'')
    rw [Grid.cell_setCell h hr hc]
    split
    · next hhere =>
      obtain ⟨rfl, rfl⟩ := hhere
      exact .inl (hone m' List.mem_cons_self)
    · next helse =>
      refine hm.imp_right fun hmem => (List.mem_cons.1 hmem).resolve_left fun heq => helse ?_
      cases heq
      exact ⟨rfl, rfl⟩

/-- A cell that no write of a list names keeps its value (R16). -/
theorem Grid.cell_write_of_not_names {g : Grid} {n r c : Nat} (h : g.Square n) (hr : r < n) (hc : c < n)
    {ws : List (Nat × Nat × Module)} (hws : ¬ Names ws r c) : (g.write ws).cell r c = g.cell r c :=
  Grid.cell_write_eq h hr hc (.inl rfl) fun m hm => absurd ⟨m, hm⟩ hws

/-- Writes of colours leave unset exactly the unset cells they do not name (R16). -/
theorem Grid.cell_write_eq_unset_iff {g : Grid} {n r c : Nat} (h : g.Square n) (hr : r < n) (hc : c < n)
    {ws : List (Nat × Nat × Module)} (hws : ∀ w ∈ ws, w.2.2 ≠ .unset) :
    (g.write ws).cell r c = .unset ↔ g.cell r c = .unset ∧ ¬ Names ws r c := by
  induction ws generalizing g with
  | nil => simp [Grid.write, Names]
  | cons w ws ih =>
    obtain ⟨r', c', m'⟩ := w
    obtain ⟨hm', hws⟩ := List.forall_mem_cons.1 hws
    rw [Grid.write, ih (h.setCell r' c' m') hws, Grid.cell_setCell h hr hc]
    split
    · next hhere =>
      obtain ⟨rfl, rfl⟩ := hhere
      exact ⟨fun hu => absurd hu.1 hm', fun hu => absurd ⟨m', List.mem_cons_self⟩ hu.2⟩
    · next helse =>
      refine and_congr_right fun _ => not_congr (exists_congr fun m => ?_)
      rw [List.mem_cons, or_iff_right]
      rintro heq
      cases heq
      exact helse ⟨rfl, rfl⟩

@[simp] theorem Module.ofBool_ne_unset (b : Bool) : Module.ofBool b ≠ .unset := by cases b <;> decide

theorem Module.ofBool_eq_ite (b : Bool) : Module.ofBool b = if b = true then .dark else .light := rfl

end Sys2Proof.Machine

namespace Sys2Proof.Machine

/-! # The writes of each pattern (R202, R204, R207, R208, R210) -/

/-- The value a finder pattern writes at its row `i` and column `j`, counted from its separator (R202). -/
theorem finderColour_eq_ofBool {i j : Nat} (hi : i < 9) (hj : j < 9) :
    Module.ofBool
      (decide ((0 ≤ (i : Int) - 1 ∧ (i : Int) - 1 ≤ 6 ∧ ((j : Int) - 1 = 0 ∨ (j : Int) - 1 = 6)) ∨
        (0 ≤ (j : Int) - 1 ∧ (j : Int) - 1 ≤ 6 ∧ ((i : Int) - 1 = 0 ∨ (i : Int) - 1 = 6))) ||
      decide (2 ≤ (i : Int) - 1 ∧ (i : Int) - 1 ≤ 4 ∧ 2 ≤ (j : Int) - 1 ∧ (j : Int) - 1 ≤ 4)) = finderColour i j := by
  rw [← Bool.decide_or, Module.ofBool, finderColour]
  simp only [decide_eq_true_eq]
  congr 1
  simp only [eq_iff_iff]
  omega

theorem mem_finderWrites {n r0 c0 r c : Nat} {m : Module} :
    (r, c, m) ∈ finderWrites n r0 c0 ↔
      ∃ i < 9, ∃ j < 9, r + 1 = r0 + i ∧ c + 1 = c0 + j ∧ r < n ∧ c < n ∧ m = finderColour i j := by
  simp only [finderWrites, List.mem_flatMap, List.mem_filterMap, List.bind_eq_flatMap, List.pure_def, List.mem_singleton,
    List.mem_range, Option.ite_none_right_eq_some, Option.some.injEq, Prod.mk.injEq]
  constructor
  · rintro ⟨_, ⟨i, hi, rfl⟩, _, ⟨j, hj, rfl⟩, hin, hrow, hcol, rfl⟩
    exact ⟨i, hi, j, hj, by omega, by omega, by omega, by omega, finderColour_eq_ofBool hi hj⟩
  · rintro ⟨i, hi, j, hj, hrow, hcol, hr, hc, rfl⟩
    exact ⟨i, ⟨i, hi, rfl⟩, j, ⟨j, hj, rfl⟩, by omega, by omega, by omega, finderColour_eq_ofBool hi hj⟩

theorem mem_alignWrites {row col r c : Nat} {m : Module} :
    (r, c, m) ∈ alignWrites row col ↔
      ∃ i < 5, ∃ j < 5, r = row + i - 2 ∧ c = col + j - 2 ∧
        m = if i = 0 ∨ i = 4 ∨ j = 0 ∨ j = 4 ∨ (i = 2 ∧ j = 2) then .dark else .light := by
  simp only [alignWrites, List.mem_flatMap, List.mem_map, List.mem_range, Prod.mk.injEq, Module.ofBool_eq_ite,
    Bool.or_eq_true, Bool.and_eq_true, beq_iff_eq, or_assoc, eq_comm (b := r), eq_comm (b := c), eq_comm (b := m)]

/-- Both copies of the format word, the dark module and both copies of the version word (R207, R208, R210). -/
def infoWrites (v w : Nat) (test : Bool) : List (Nat × Nat × Module) :=
  formatWrites (sideOf v) w test ++ [darkModuleWrite (sideOf v) test] ++ versionWrites (sideOf v) v test

theorem mem_formatWrites {n w r c : Nat} {test : Bool} {m : Module} :
    (r, c, m) ∈ formatWrites n w test ↔
      ∃ i < 15, m = infoCell test w i ∧ (r = formatRow n i ∧ c = 8 ∨ r = 8 ∧ c = formatCol n i) := by
  simp only [formatWrites, List.mem_flatMap, List.mem_range, List.mem_cons, List.not_mem_nil, or_false, Prod.mk.injEq]
  refine exists_congr fun i => and_congr_right fun _ => ?_
  rw [← and_assoc, ← and_assoc, ← or_and_right, and_comm]

theorem mem_versionWrites {n v r c : Nat} {test : Bool} {m : Module} :
    (r, c, m) ∈ versionWrites n v test ↔
      7 ≤ v ∧ ∃ i < 18, m = infoCell test (versionWord v) i ∧
        (r = i / 3 ∧ c = n - 11 + i % 3 ∨ r = n - 11 + i % 3 ∧ c = i / 3) := by
  rw [versionWrites]
  split
  · next hv => exact iff_of_false List.not_mem_nil fun h => absurd h.1 (by omega)
  · next hv =>
    simp only [List.mem_flatMap, List.mem_range, List.mem_cons, List.not_mem_nil, or_false, Prod.mk.injEq]
    rw [and_iff_right (Nat.le_of_not_lt hv)]
    refine exists_congr fun i => and_congr_right fun _ => ?_
    rw [← and_assoc, ← and_assoc, ← or_and_right, and_comm]

end Sys2Proof.Machine

namespace Sys2Proof.Machine

/-! # The alignment coordinates (R203) -/

/-- The coordinates are even; each is 6, `N - 7`, or clear of the finder patterns and of the version words (R203). -/
theorem alignCoords_positions : ∀ k < 40, ∀ p ∈ alignCoords (k + 1),
    p % 2 = 0 ∧ (p = 6 ∨ p + 7 = sideOf (k + 1) ∨ (16 ≤ p ∧ p + 23 ≤ sideOf (k + 1))) := by decide +kernel

theorem alignCoords_apart : ∀ k < 40, (alignCoords (k + 1)).Pairwise (fun p q => p + 5 ≤ q) := by decide +kernel

theorem alignCoords_closedForm : ∀ k < 40, alignCoords (k + 1) =
    (if k + 1 = 1 then []
     else
      let na := (k + 1) / 7 + 2
      let step := if k + 1 = 32 then 26 else 2 * ((4 * (k + 1) + 2 * na + 1) / (2 * na - 2))
      6 :: (List.range (na - 1)).map (fun j => 4 * (k + 1) + 17 - 7 - (na - 2 - j) * step)) := by decide +kernel

/-- A pair of coordinates in a corner, where a finder pattern stands (R204, D27). -/
def isCorner (n : Nat) (p : Nat × Nat) : Bool :=
  (p.1 == 6 && (p.2 == 6 || p.2 == n - 7)) || (p.1 == n - 7 && p.2 == 6)

/-- The centres of the alignment patterns of a version, in order (R204). -/
def alignCentres (v : Nat) : List (Nat × Nat) :=
  (alignCoords v ×ˢ alignCoords v).filter (fun p => !isCorner (sideOf v) p)

/-- Two pairs of coordinates whose alignment patterns do not meet. -/
def Apart (p q : Nat × Nat) : Prop := p.1 + 5 ≤ q.1 ∨ q.1 + 5 ≤ p.1 ∨ p.2 + 5 ≤ q.2 ∨ q.2 + 5 ≤ p.2

theorem pairs_apart {ps : List Nat} (h : ps.Pairwise (fun p q => p + 5 ≤ q)) : (ps ×ˢ ps).Pairwise Apart := by
  refine List.pairwise_flatMap.2 ⟨fun p _ => List.pairwise_map.2 (h.imp fun hlt => ?_), h.imp fun hlt => ?_⟩
  · exact .inr (.inr (.inl hlt))
  · rintro x hx y hy
    obtain ⟨-, -, rfl⟩ := List.mem_map.1 hx
    obtain ⟨-, -, rfl⟩ := List.mem_map.1 hy
    exact .inl hlt

theorem foldl_foldl_eq_foldl_product {α β γ : Type} (f : α → β → γ → α) (a : α) (bs : List β) (cs : List γ) :
    bs.foldl (fun a b => cs.foldl (fun a c => f a b c) a) a = (bs ×ˢ cs).foldl (fun a p => f a p.1 p.2) a := by
  induction bs generalizing a with
  | nil => rfl
  | cons b bs ih => rw [List.product_cons, List.foldl_append, List.foldl_map, List.foldl_cons, ih]

/-- Along pairs whose patterns do not meet, a pattern is placed at exactly those whose centre is unset before the first (R204). -/
theorem foldl_placeAlign {g : Grid} {n : Nat} (hg : g.Square n) {ps : List (Nat × Nat)} (hps : ps.Pairwise Apart)
    (hin : ∀ p ∈ ps, p.1 < n ∧ p.2 < n) :
    ps.foldl (fun g p => placeAlign g p.1 p.2) g =
      g.write ((ps.filter (fun p => g.cell p.1 p.2 = .unset)).flatMap (fun p => alignWrites p.1 p.2)) := by
  induction ps generalizing g with
  | nil => rfl
  | cons p ps ih =>
    obtain ⟨hp, hps⟩ := List.pairwise_cons.1 hps
    obtain ⟨-, hin⟩ := List.forall_mem_cons.1 hin
    rw [List.foldl_cons, placeAlign]
    split
    · next hunset =>
      have hkeep : ps.filter (fun q => (g.write (alignWrites p.1 p.2)).cell q.1 q.2 = .unset) =
          ps.filter (fun q => g.cell q.1 q.2 = .unset) := by
        refine List.filter_congr fun q hq => ?_
        obtain ⟨hr, hc⟩ := hin q hq
        rw [Grid.cell_write_of_not_names hg hr hc]
        rintro ⟨m, hm⟩
        obtain ⟨i, hi, j, hj, hrow, hcol, -⟩ := mem_alignWrites.1 hm
        have := hp q hq
        rw [Apart] at this
        omega
      rw [ih (hg.write _) hps hin, hkeep, List.filter_cons_of_pos (by simpa using hunset), List.flatMap_cons,
        Grid.write_append]
    · next hset => rw [List.filter_cons_of_neg (by simpa using hset), ih hg hps hin]

end Sys2Proof.Machine

namespace Sys2Proof.Machine

/-! # The finder and alignment patterns as one list of writes (R201 steps 1 and 2) -/

/-- The writes of the three finder patterns (R202). -/
def allFinderWrites (n : Nat) : List (Nat × Nat × Module) :=
  finderWrites n 0 0 ++ finderWrites n (n - 7) 0 ++ finderWrites n 0 (n - 7)

theorem placeFinders_eq_write (g : Grid) (n : Nat) : placeFinders g n = g.write (allFinderWrites n) := by
  rw [allFinderWrites, Grid.write_append, Grid.write_append, placeFinders]

/-- The corners of the finder patterns with their separators (R202). -/
def InFinder (n r c : Nat) : Prop := r < 8 ∧ c < 8 ∨ n ≤ r + 8 ∧ r < n ∧ c < 8 ∨ r < 8 ∧ n ≤ c + 8 ∧ c < n

/-- The value of a cell in a corner, its row and column counted in its own pattern (R202). -/
def finderAt (n r c : Nat) : Module :=
  finderColour (if n ≤ r + 8 then r + 8 - n else r + 1) (if n ≤ c + 8 then c + 8 - n else c + 1)

theorem mem_allFinderWrites {n r c : Nat} {m : Module} (hn : 21 ≤ n) :
    (r, c, m) ∈ allFinderWrites n ↔ InFinder n r c ∧ m = finderAt n r c := by
  simp only [allFinderWrites, List.mem_append, mem_finderWrites, InFinder, finderAt]
  constructor
  · rintro ((⟨i, hi, j, hj, hrow, hcol, hr, hc, rfl⟩ | ⟨i, hi, j, hj, hrow, hcol, hr, hc, rfl⟩) |
      ⟨i, hi, j, hj, hrow, hcol, hr, hc, rfl⟩)
    · rw [if_neg (by omega), if_neg (by omega)]
      exact ⟨by omega, by rw [hrow, hcol, Nat.zero_add, Nat.zero_add]⟩
    · rw [if_pos (by omega), if_neg (by omega)]
      exact ⟨by omega, by congr 1 <;> omega⟩
    · rw [if_neg (by omega), if_pos (by omega)]
      exact ⟨by omega, by congr 1 <;> omega⟩
  · rintro ⟨⟨hr, hc⟩ | ⟨hr, hrn, hc⟩ | ⟨hr, hc, hcn⟩, rfl⟩
    · rw [if_neg (by omega), if_neg (by omega)]
      exact .inl (.inl ⟨r + 1, by omega, c + 1, by omega, by omega, by omega, by omega, by omega, rfl⟩)
    · rw [if_pos (by omega), if_neg (by omega)]
      exact .inl (.inr ⟨r + 8 - n, by omega, c + 1, by omega, by omega, by omega, by omega, by omega, rfl⟩)
    · rw [if_neg (by omega), if_pos (by omega)]
      exact .inr ⟨r + 1, by omega, c + 8 - n, by omega, by omega, by omega, by omega, by omega, rfl⟩

theorem names_allFinderWrites {n r c : Nat} (hn : 21 ≤ n) : Names (allFinderWrites n) r c ↔ InFinder n r c := by
  simp only [Names, mem_allFinderWrites hn, exists_and_left, exists_eq, and_true]

@[simp] theorem finderColour_ne_unset (i j : Nat) : finderColour i j ≠ .unset := by
  rw [finderColour]
  split <;> decide

theorem finderWrites_coloured (n r0 c0 : Nat) : ∀ w ∈ finderWrites n r0 c0, w.2.2 ≠ .unset := by
  rintro ⟨r, c, m⟩ hw
  obtain ⟨i, -, j, -, -, -, -, -, rfl⟩ := mem_finderWrites.1 hw
  exact finderColour_ne_unset i j

theorem allFinderWrites_coloured (n : Nat) : ∀ w ∈ allFinderWrites n, w.2.2 ≠ .unset := by
  simp only [allFinderWrites, List.mem_append]
  rintro w ((hw | hw) | hw) <;> exact finderWrites_coloured _ _ _ w hw

theorem alignWrites_coloured (row col : Nat) : ∀ w ∈ alignWrites row col, w.2.2 ≠ .unset := by
  rintro ⟨r, c, m⟩ hw
  obtain ⟨i, -, j, -, -, -, rfl⟩ := mem_alignWrites.1 hw
  dsimp only
  split <;> decide

/-- The cells of an alignment pattern about its centre (R204). -/
def Near (p : Nat × Nat) (r c : Nat) : Prop := p.1 ≤ r + 2 ∧ r ≤ p.1 + 2 ∧ p.2 ≤ c + 2 ∧ c ≤ p.2 + 2

theorem isCorner_iff {n : Nat} {p : Nat × Nat} :
    isCorner n p = true ↔ p.1 = 6 ∧ (p.2 = 6 ∨ p.2 = n - 7) ∨ p.1 = n - 7 ∧ p.2 = 6 := by
  simp only [isCorner, Bool.or_eq_true, Bool.and_eq_true, beq_iff_eq]

theorem mem_alignCentres {v : Nat} {p : Nat × Nat} :
    p ∈ alignCentres v ↔ (p.1 ∈ alignCoords v ∧ p.2 ∈ alignCoords v) ∧
      ¬ (p.1 = 6 ∧ (p.2 = 6 ∨ p.2 = sideOf v - 7) ∨ p.1 = sideOf v - 7 ∧ p.2 = 6) := by
  rw [alignCentres, List.mem_filter, List.mem_product, Bool.not_eq_true', ← Bool.not_eq_true, isCorner_iff]

/-- The writes of the finder and the alignment patterns, in order (R201 steps 1 and 2). -/
def patternWrites (v : Nat) : List (Nat × Nat × Module) :=
  allFinderWrites (sideOf v) ++ (alignCentres v).flatMap (fun p => alignWrites p.1 p.2)

theorem patternWrites_coloured (v : Nat) : ∀ w ∈ patternWrites v, w.2.2 ≠ .unset := by
  simp only [patternWrites, List.mem_append, List.mem_flatMap]
  rintro w (hw | ⟨p, -, hw⟩)
  · exact allFinderWrites_coloured _ w hw
  · exact alignWrites_coloured _ _ w hw

theorem sideOf_ge {v : Nat} (h1 : 1 ≤ v) : 21 ≤ sideOf v := by
  rw [sideOf]
  omega

section
variable {v : Nat} (h1 : 1 ≤ v) (h40 : v ≤ 40)
include h1 h40

theorem alignCoords_position {p : Nat} (hp : p ∈ alignCoords v) :
    p % 2 = 0 ∧ (p = 6 ∨ p + 7 = sideOf v ∨ (16 ≤ p ∧ p + 23 ≤ sideOf v)) := by
  obtain ⟨k, rfl⟩ := Nat.exists_eq_add_of_le' h1
  exact alignCoords_positions k h40 p hp

theorem alignCoords_pairwise : (alignCoords v).Pairwise (fun p q => p + 5 ≤ q) := by
  obtain ⟨k, rfl⟩ := Nat.exists_eq_add_of_le' h1
  exact alignCoords_apart k h40

/-- The alignment patterns placed after the finder patterns are those of the centres outside the corners (R204, D27). -/
theorem placeAligns_eq_write :
    placeAligns (placeFinders (Grid.blank (sideOf v)) (sideOf v)) v = (Grid.blank (sideOf v)).write (patternWrites v) := by
  have hn := sideOf_ge h1
  have hblank := Grid.blank_square (sideOf v)
  have hin : ∀ p ∈ alignCoords v ×ˢ alignCoords v, p.1 < sideOf v ∧ p.2 < sideOf v := by
    intro p hp
    obtain ⟨hrow, hcol⟩ := List.mem_product.1 hp
    have := alignCoords_position h1 h40 hrow
    have := alignCoords_position h1 h40 hcol
    omega
  have hcentres : (alignCoords v ×ˢ alignCoords v).filter
      (fun p => ((Grid.blank (sideOf v)).write (allFinderWrites (sideOf v))).cell p.1 p.2 = .unset) = alignCentres v := by
    refine List.filter_congr fun p hp => ?_
    obtain ⟨hr, hc⟩ := hin p hp
    obtain ⟨hrow, hcol⟩ := List.mem_product.1 hp
    have := alignCoords_position h1 h40 hrow
    have := alignCoords_position h1 h40 hcol
    rw [Bool.eq_iff_iff, decide_eq_true_eq, Bool.not_eq_true', ← Bool.not_eq_true, isCorner_iff,
      Grid.cell_write_eq_unset_iff hblank hr hc (allFinderWrites_coloured _), names_allFinderWrites hn, InFinder,
      Grid.cell_blank, and_iff_right rfl]
    omega
  calc placeAligns (placeFinders (Grid.blank (sideOf v)) (sideOf v)) v
      = (alignCoords v ×ˢ alignCoords v).foldl (fun g p => placeAlign g p.1 p.2)
          ((Grid.blank (sideOf v)).write (allFinderWrites (sideOf v))) := by
        rw [placeFinders_eq_write, placeAligns, foldl_foldl_eq_foldl_product]
    _ = (Grid.blank (sideOf v)).write (patternWrites v) := by
        rw [foldl_placeAlign (hblank.write _) (pairs_apart (alignCoords_pairwise h1 h40)) hin, hcentres, patternWrites,
          Grid.write_append]

/-- Where the centre of an alignment pattern stands: even, and clear of the finder patterns in a row or a column (R203, R204). -/
theorem alignCentre_position {p : Nat × Nat} (hp : p ∈ alignCentres v) :
    (p.1 % 2 = 0 ∧ p.2 % 2 = 0) ∧ (6 ≤ p.1 ∧ p.1 + 7 ≤ sideOf v ∧ 6 ≤ p.2 ∧ p.2 + 7 ≤ sideOf v) ∧
      (p.1 = 6 ∧ 16 ≤ p.2 ∧ p.2 + 23 ≤ sideOf v ∨ p.2 = 6 ∧ 16 ≤ p.1 ∧ p.1 + 23 ≤ sideOf v ∨ 14 ≤ p.1 ∧ 14 ≤ p.2) := by
  have hn := sideOf_ge h1
  obtain ⟨⟨hrow, hcol⟩, hcorner⟩ := mem_alignCentres.1 hp
  have := alignCoords_position h1 h40 hrow
  have := alignCoords_position h1 h40 hcol
  omega

theorem alignCentres_apart {p q : Nat × Nat} (hp : p ∈ alignCentres v) (hq : q ∈ alignCentres v) (hne : p ≠ q) : Apart p q :=
  have : Std.Symm Apart := ⟨fun _ _ h => by rw [Apart] at h ⊢; omega⟩
  ((pairs_apart (alignCoords_pairwise h1 h40)).filter _).forall hp hq hne

theorem names_alignWrites {p : Nat × Nat} (hp : p ∈ alignCentres v) {r c : Nat} :
    Names (alignWrites p.1 p.2) r c ↔ Near p r c := by
  have hpos := alignCentre_position h1 h40 hp
  simp only [Names, mem_alignWrites, Near]
  constructor
  · rintro ⟨m, i, hi, j, hj, rfl, rfl, -⟩
    omega
  · intro h
    exact ⟨_, r + 2 - p.1, by omega, c + 2 - p.2, by omega, by omega, by omega, rfl⟩

theorem not_inFinder_of_near {p : Nat × Nat} (hp : p ∈ alignCentres v) {r c : Nat} (h : Near p r c) :
    ¬ InFinder (sideOf v) r c := by
  have hpos := alignCentre_position h1 h40 hp
  rw [Near] at h
  rw [InFinder]
  omega

theorem names_patternWrites {r c : Nat} :
    Names (patternWrites v) r c ↔ InFinder (sideOf v) r c ∨ ∃ p ∈ alignCentres v, Near p r c := by
  rw [patternWrites, names_append, names_allFinderWrites (sideOf_ge h1)]
  refine or_congr_right ?_
  simp only [Names, List.mem_flatMap]
  constructor
  · rintro ⟨m, p, hp, hm⟩
    exact ⟨p, hp, (names_alignWrites h1 h40 hp).1 ⟨m, hm⟩⟩
  · rintro ⟨p, hp, hnear⟩
    obtain ⟨m, hm⟩ := (names_alignWrites h1 h40 hp).2 hnear
    exact ⟨m, p, hp, hm⟩

/-- No two writes of the finder and alignment patterns give a cell different values (R204). -/
theorem patternWrites_unique {r c : Nat} {m m' : Module} (hm : (r, c, m) ∈ patternWrites v)
    (hm' : (r, c, m') ∈ patternWrites v) : m' = m := by
  have hn := sideOf_ge h1
  have hclear {p : Nat × Nat} {a b : Module} (hp : p ∈ alignCentres v) (ha : (r, c, a) ∈ alignWrites p.1 p.2)
      (hb : (r, c, b) ∈ allFinderWrites (sideOf v)) : False :=
    not_inFinder_of_near h1 h40 hp ((names_alignWrites h1 h40 hp).1 ⟨a, ha⟩) ((names_allFinderWrites hn).1 ⟨b, hb⟩)
  rw [patternWrites, List.mem_append, List.mem_flatMap] at hm hm'
  rcases hm with hm | ⟨p, hp, hm⟩ <;> rcases hm' with hm' | ⟨q, hq, hm'⟩
  · exact ((mem_allFinderWrites hn).1 hm').2.trans ((mem_allFinderWrites hn).1 hm).2.symm
  · exact (hclear hq hm' hm).elim
  · exact (hclear hp hm hm').elim
  · have hpq : p = q := by
      by_contra hne
      have hap := alignCentres_apart h1 h40 hp hq hne
      have hnp := (names_alignWrites h1 h40 hp).1 ⟨m, hm⟩
      have hnq := (names_alignWrites h1 h40 hq).1 ⟨m', hm'⟩
      rw [Apart] at hap
      rw [Near] at hnp hnq
      omega
    subst hpq
    have hpos := alignCentre_position h1 h40 hp
    obtain ⟨i, hi, j, hj, hrow, hcol, rfl⟩ := mem_alignWrites.1 hm
    obtain ⟨i', hi', j', hj', hrow', hcol', rfl⟩ := mem_alignWrites.1 hm'
    obtain rfl : i' = i := by omega
    obtain rfl : j' = j := by omega
    rfl

end

end Sys2Proof.Machine

namespace Sys2Proof.Machine

/-! # The timing patterns (R201 step 3, R205) -/

/-- The cells of the timing patterns (R205). -/
def OnTiming (n r c : Nat) : Bool := (c == 6 && 8 ≤ r && r + 8 < n) || (r == 6 && 8 ≤ c && c + 8 < n)

theorem onTiming_iff {n r c : Nat} :
    OnTiming n r c = true ↔ c = 6 ∧ 8 ≤ r ∧ r + 8 < n ∨ r = 6 ∧ 8 ≤ c ∧ c + 8 < n := by
  simp only [OnTiming, Bool.or_eq_true, Bool.and_eq_true, beq_iff_eq, decide_eq_true_eq, and_assoc]

theorem Grid.Square.placeTimingCell {g : Grid} {n : Nat} (h : g.Square n) (r c : Nat) (dark : Bool) :
    (placeTimingCell g r c dark).Square n := by
  rw [Machine.placeTimingCell]
  split
  · exact h.setCell r c _
  · exact h

/-- A timing cell is written where it is unset; every other cell stays (R205). -/
theorem cell_placeTimingCell {g : Grid} {n r c : Nat} (h : g.Square n) (hr : r < n) (hc : c < n) (r' c' : Nat) (dark : Bool) :
    (placeTimingCell g r' c' dark).cell r c =
      if g.cell r c = .unset ∧ r' = r ∧ c' = c then Module.ofBool dark else g.cell r c := by
  rw [placeTimingCell]
  split
  · next hunset =>
    rw [Grid.cell_setCell h hr hc]
    split
    · next hhere =>
      obtain ⟨rfl, rfl⟩ := hhere
      rw [if_pos ⟨hunset, rfl, rfl⟩]
    · next helse => rw [if_neg fun hw => helse hw.2]
  · next hset =>
    rw [if_neg]
    rintro ⟨hunset, rfl, rfl⟩
    exact hset hunset

/-- A line of timing cells, dark at even indices, along positions `pos` (R205). -/
def placeTimingLine (pos : Nat → Nat × Nat) (g : Grid) (ks : List Nat) : Grid :=
  ks.foldl (fun g k => placeTimingCell g (pos k).1 (pos k).2 (k % 2 == 0)) g

theorem Grid.Square.placeTimingLine {g : Grid} {n : Nat} (h : g.Square n) (pos : Nat → Nat × Nat) (ks : List Nat) :
    (placeTimingLine pos g ks).Square n := by
  induction ks generalizing g with
  | nil => exact h
  | cons k ks ih => exact ih (h.placeTimingCell ..)

/-- Where the index of a cell on the line is even exactly when its row and column add up to an even number, the line writes that
parity on its unset cells (R205). -/
theorem cell_placeTimingLine {pos : Nat → Nat × Nat} (hpos : ∀ k, ((pos k).1 + (pos k).2) % 2 = k % 2) {g : Grid} {n r c : Nat}
    (h : g.Square n) (hr : r < n) (hc : c < n) (ks : List Nat) :
    (placeTimingLine pos g ks).cell r c =
      if g.cell r c = .unset ∧ ∃ k ∈ ks, pos k = (r, c) then Module.ofBool ((r + c) % 2 == 0) else g.cell r c := by
  induction ks generalizing g with
  | nil => simp [placeTimingLine]
  | cons k ks ih =>
    have hstep := cell_placeTimingCell h hr hc (pos k).1 (pos k).2 (k % 2 == 0)
    rw [placeTimingLine, List.foldl_cons, ← placeTimingLine, ih (h.placeTimingCell ..), hstep]
    by_cases hk : pos k = (r, c)
    · have hpar := hpos k
      rw [hk] at hpar
      by_cases hunset : g.cell r c = .unset <;> simp [hk, hunset, ← hpar]
    · have hne : ¬ ((pos k).1 = r ∧ (pos k).2 = c) := fun hrc => hk (Prod.ext hrc.1 hrc.2)
      simp [hk, hne]

theorem placeTiming_eq (g : Grid) (n : Nat) :
    placeTiming g n =
      placeTimingLine (fun c => (6, c)) (placeTimingLine (fun r => (r, 6)) g (List.range' 8 (n - 16))) (List.range' 8 (n - 16)) :=
  rfl

theorem Grid.Square.placeTiming {g : Grid} {n : Nat} (h : g.Square n) : (placeTiming g n).Square n := by
  rw [placeTiming_eq]
  exact (h.placeTimingLine ..).placeTimingLine ..

/-- The timing patterns write on their unset cells, and leave every other cell (R205). -/
theorem cell_placeTiming {g : Grid} {n r c : Nat} (h : g.Square n) (hr : r < n) (hc : c < n) :
    (placeTiming g n).cell r c =
      if g.cell r c = .unset ∧ OnTiming n r c then Module.ofBool ((r + c) % 2 == 0) else g.cell r c := by
  have hcol : (∃ k ∈ List.range' 8 (n - 16), ((k, 6) : Nat × Nat) = (r, c)) ↔ c = 6 ∧ 8 ≤ r ∧ r + 8 < n := by
    simp only [List.mem_range'_1, Prod.mk.injEq]
    constructor
    · rintro ⟨k, hk, rfl, rfl⟩
      omega
    · rintro ⟨rfl, hr8, hrn⟩
      exact ⟨r, by omega, rfl, rfl⟩
  have hrow : (∃ k ∈ List.range' 8 (n - 16), ((6, k) : Nat × Nat) = (r, c)) ↔ r = 6 ∧ 8 ≤ c ∧ c + 8 < n := by
    simp only [List.mem_range'_1, Prod.mk.injEq]
    constructor
    · rintro ⟨k, hk, rfl, rfl⟩
      omega
    · rintro ⟨rfl, hc8, hcn⟩
      exact ⟨c, by omega, rfl, rfl⟩
  rw [placeTiming_eq, cell_placeTimingLine (fun k => by dsimp only; omega) (h.placeTimingLine ..) hr hc,
    cell_placeTimingLine (fun k => by dsimp only; omega) h hr hc]
  simp only [hcol, hrow, onTiming_iff]
  by_cases hunset : g.cell r c = .unset
  · by_cases honCol : c = 6 ∧ 8 ≤ r ∧ r + 8 < n <;> simp [hunset, honCol]
  · simp [hunset]

theorem cell_placeTiming_eq_unset_iff {g : Grid} {n r c : Nat} (h : g.Square n) (hr : r < n) (hc : c < n) :
    (placeTiming g n).cell r c = .unset ↔ g.cell r c = .unset ∧ ¬ OnTiming n r c := by
  rw [cell_placeTiming h hr hc]
  split
  · next hon => exact iff_of_false (Module.ofBool_ne_unset _) fun h => h.2 hon.2
  · next hoff => exact ⟨fun hunset => ⟨hunset, fun hon => hoff ⟨hunset, hon⟩⟩, fun h => h.1⟩

end Sys2Proof.Machine

namespace Sys2Proof.Machine

/-! # The structural grid (R200, R201) -/

theorem structural_eq_write {v : Nat} (h1 : 1 ≤ v) (h40 : v ≤ 40) (lvl : Level) (m : Fin 8) (test : Bool) :
    structural v lvl m test =
      (placeTiming ((Grid.blank (sideOf v)).write (patternWrites v)) (sideOf v)).write
        (infoWrites v (formatWord lvl m.val) test) := by
  rw [structural, placeAligns_eq_write h1 h40, infoWrites, Grid.write_append, Grid.write_append]

/-! ## The information cells -/

theorem infoCell_eq (test : Bool) (w i : Nat) :
    infoCell test w i = if test = false ∧ w.testBit i = true then .dark else .light := by
  simp only [infoCell, Module.ofBool_eq_ite, Bool.and_eq_true, Bool.not_eq_true']

theorem mem_infoWrites {v w r c : Nat} {test : Bool} {m : Module} :
    (r, c, m) ∈ infoWrites v w test ↔
      (r, c, m) ∈ formatWrites (sideOf v) w test ∨ (r = sideOf v - 8 ∧ c = 8 ∧ m = Module.ofBool (!test)) ∨
        (r, c, m) ∈ versionWrites (sideOf v) v test := by
  simp only [infoWrites, List.mem_append, List.mem_singleton, darkModuleWrite, Prod.mk.injEq, or_assoc]

/-- The cells of the format words (R207). -/
def InFormat (n r c : Nat) : Prop :=
  c = 8 ∧ r ≠ 6 ∧ (r < 9 ∨ n ≤ r + 7 ∧ r < n) ∨ r = 8 ∧ c ≠ 6 ∧ (c < 8 ∨ n ≤ c + 8 ∧ c < n)

/-- The cells of the version words (R210). -/
def InVersion (n r c : Nat) : Prop := r < 6 ∧ n ≤ c + 11 ∧ c + 8 < n ∨ n ≤ r + 11 ∧ r + 8 < n ∧ c < 6

theorem names_formatWrites {n w r c : Nat} {test : Bool} (hn : 21 ≤ n) :
    Names (formatWrites n w test) r c ↔ InFormat n r c := by
  simp only [Names, mem_formatWrites, InFormat]
  constructor
  · rintro ⟨m, i, hi, -, ⟨rfl, rfl⟩ | ⟨rfl, rfl⟩⟩
    · rw [formatRow]
      split_ifs <;> omega
    · rw [formatCol]
      split_ifs <;> omega
  · rintro (⟨rfl, hr6, hr⟩ | ⟨rfl, hc6, hc⟩)
    · refine ⟨_, if r < 6 then r else if r < 9 then r - 1 else r + 15 - n, ?_, rfl, .inl ⟨?_, rfl⟩⟩
      · split_ifs <;> omega
      · rw [formatRow]
        split_ifs <;> omega
    · refine ⟨_, if c < 6 then 14 - c else if c < 8 then 8 else n - 1 - c, ?_, rfl, .inr ⟨rfl, ?_⟩⟩
      · split_ifs <;> omega
      · rw [formatCol]
        split_ifs <;> omega

theorem names_versionWrites {n v r c : Nat} {test : Bool} (hn : 21 ≤ n) :
    Names (versionWrites n v test) r c ↔ 7 ≤ v ∧ InVersion n r c := by
  simp only [Names, mem_versionWrites, InVersion]
  constructor
  · rintro ⟨m, hv, i, hi, -, ⟨rfl, rfl⟩ | ⟨rfl, rfl⟩⟩ <;> omega
  · rintro ⟨hv, ⟨hr, hc, hcn⟩ | ⟨hr, hrn, hc⟩⟩
    · exact ⟨_, hv, 3 * r + (c + 11 - n), by omega, rfl, .inl ⟨by omega, by omega⟩⟩
    · exact ⟨_, hv, 3 * c + (r + 11 - n), by omega, rfl, .inr ⟨by omega, by omega⟩⟩

theorem names_infoWrites {v w r c : Nat} {test : Bool} (h1 : 1 ≤ v) :
    Names (infoWrites v w test) r c ↔
      InFormat (sideOf v) r c ∨ (r = sideOf v - 8 ∧ c = 8) ∨ 7 ≤ v ∧ InVersion (sideOf v) r c := by
  rw [← names_versionWrites (sideOf_ge h1) (test := test), ← names_formatWrites (sideOf_ge h1) (w := w) (test := test)]
  simp only [Names, mem_infoWrites, exists_or, exists_and_left, exists_eq, and_true]

theorem formatWrites_unique {n w r c : Nat} {test : Bool} {m m' : Module} (hn : 21 ≤ n)
    (hm : (r, c, m) ∈ formatWrites n w test) (hm' : (r, c, m') ∈ formatWrites n w test) : m' = m := by
  obtain ⟨i, hi, rfl, hpos⟩ := mem_formatWrites.1 hm
  obtain ⟨i', hi', rfl, hpos'⟩ := mem_formatWrites.1 hm'
  suffices i' = i by rw [this]
  simp only [formatRow, formatCol] at hpos hpos'
  split_ifs at hpos hpos' <;> omega

theorem versionWrites_unique {n v r c : Nat} {test : Bool} {m m' : Module} (hn : 21 ≤ n)
    (hm : (r, c, m) ∈ versionWrites n v test) (hm' : (r, c, m') ∈ versionWrites n v test) : m' = m := by
  obtain ⟨-, i, hi, rfl, hpos⟩ := mem_versionWrites.1 hm
  obtain ⟨-, i', hi', rfl, hpos'⟩ := mem_versionWrites.1 hm'
  obtain rfl : i' = i := by omega
  rfl

/-- No two information writes give a cell different values: the format words, the dark module and the version words do not meet. -/
theorem infoWrites_unique {v w r c : Nat} {test : Bool} {m m' : Module} (h1 : 1 ≤ v)
    (hm : (r, c, m) ∈ infoWrites v w test) (hm' : (r, c, m') ∈ infoWrites v w test) : m' = m := by
  have hn := sideOf_ge h1
  have hside : sideOf v = 4 * v + 17 := rfl
  have hformat {a : Module} (ha : (r, c, a) ∈ formatWrites (sideOf v) w test) :
      ¬ (r = sideOf v - 8 ∧ c = 8) ∧ ¬ Names (versionWrites (sideOf v) v test) r c := by
    have hin := (names_formatWrites hn).1 ⟨a, ha⟩
    rw [InFormat] at hin
    rw [names_versionWrites hn, InVersion]
    omega
  have hdark (h : r = sideOf v - 8 ∧ c = 8) : ¬ Names (versionWrites (sideOf v) v test) r c := by
    rw [names_versionWrites hn, InVersion]
    omega
  rw [mem_infoWrites, ← and_assoc] at hm hm'
  rcases hm with hm | ⟨hat, rfl⟩ | hm <;> rcases hm' with hm' | ⟨hat', rfl⟩ | hm'
  · exact formatWrites_unique hn hm hm'
  · exact absurd hat' (hformat hm).1
  · exact absurd ⟨m', hm'⟩ (hformat hm).2
  · exact absurd hat (hformat hm').1
  · rfl
  · exact absurd ⟨m', hm'⟩ (hdark hat)
  · exact absurd ⟨m, hm⟩ (hformat hm').2
  · exact absurd ⟨m, hm⟩ (hdark hat')
  · exact versionWrites_unique hn hm hm'

theorem infoWrites_coloured (v w : Nat) (test : Bool) : ∀ a ∈ infoWrites v w test, a.2.2 ≠ .unset := by
  rintro ⟨r, c, m⟩ hm
  rcases mem_infoWrites.1 hm with hm | ⟨-, -, rfl⟩ | hm
  · obtain ⟨i, -, rfl, -⟩ := mem_formatWrites.1 hm
    exact Module.ofBool_ne_unset _
  · exact Module.ofBool_ne_unset _
  · obtain ⟨-, i, -, rfl, -⟩ := mem_versionWrites.1 hm
    exact Module.ofBool_ne_unset _

/-! ## What the structural grid holds -/

/-- A cell the finder and alignment patterns write with one value, and that no information word names, has it (R201). -/
theorem structural_cell_of_pattern {v : Nat} (h1 : 1 ≤ v) (h40 : v ≤ 40) {lvl : Level} {mask : Fin 8} {test : Bool} {r c : Nat}
    (hr : r < sideOf v) (hc : c < sideOf v) {m : Module} (hm : (r, c, m) ∈ patternWrites v)
    (hinfo : ¬ Names (infoWrites v (formatWord lvl mask.val) test) r c) :
    (structural v lvl mask test).cell r c = m := by
  have hblank := Grid.blank_square (sideOf v)
  have hset : m ≠ .unset := patternWrites_coloured v _ hm
  have hcell : ((Grid.blank (sideOf v)).write (patternWrites v)).cell r c = m :=
    Grid.cell_write_eq hblank hr hc (.inr hm) fun m' hm' => patternWrites_unique h1 h40 hm hm'
  rw [structural_eq_write h1 h40, Grid.cell_write_of_not_names (hblank.write _).placeTiming hr hc hinfo,
    cell_placeTiming (hblank.write _) hr hc, if_neg (fun h => hset (hcell ▸ h.1)), hcell]

theorem structural_eq_unset_iff {v : Nat} (h1 : 1 ≤ v) (h40 : v ≤ 40) {lvl : Level} {mask : Fin 8} {test : Bool} {r c : Nat}
    (hr : r < sideOf v) (hc : c < sideOf v) :
    (structural v lvl mask test).cell r c = .unset ↔
      ¬ Names (patternWrites v) r c ∧ ¬ OnTiming (sideOf v) r c ∧ ¬ Names (infoWrites v (formatWord lvl mask.val) test) r c := by
  have hblank := Grid.blank_square (sideOf v)
  rw [structural_eq_write h1 h40, Grid.cell_write_eq_unset_iff (hblank.write _).placeTiming hr hc (infoWrites_coloured _ _ _),
    cell_placeTiming_eq_unset_iff (hblank.write _) hr hc,
    Grid.cell_write_eq_unset_iff hblank hr hc (patternWrites_coloured v), Grid.cell_blank, and_iff_right rfl, and_assoc]

section
variable {v : Nat} (h1 : 1 ≤ v) (h40 : v ≤ 40) {lvl : Level} {mask : Fin 8} {test : Bool} {r c : Nat}
include h1 h40

/-- An information cell holds what its one write gives it (R207, R208, R210). -/
theorem structural_cell_of_info {m : Module} (hm : (r, c, m) ∈ infoWrites v (formatWord lvl mask.val) test) :
    (structural v lvl mask test).cell r c = m := by
  have hn := sideOf_ge h1
  have hin := (names_infoWrites h1).1 ⟨m, hm⟩
  rw [InFormat, InVersion] at hin
  rw [structural_eq_write h1 h40]
  exact Grid.cell_write_eq ((Grid.blank_square _).write _).placeTiming (by omega) (by omega) (.inr hm) fun m' hm' =>
    infoWrites_unique h1 hm hm'

/-- A cell of a finder pattern holds its colour (R202). -/
theorem structural_cell_of_finder {m : Module} (hm : (r, c, m) ∈ allFinderWrites (sideOf v)) :
    (structural v lvl mask test).cell r c = m := by
  have hn := sideOf_ge h1
  have hside : sideOf v = 4 * v + 17 := rfl
  have hin := (names_allFinderWrites hn).1 ⟨m, hm⟩
  rw [InFinder] at hin
  refine structural_cell_of_pattern h1 h40 (by omega) (by omega) (List.mem_append_left _ hm) ?_
  rw [names_infoWrites h1, InFormat, InVersion]
  omega

/-- A cell of an alignment pattern (R204). -/
theorem structural_cell_of_align {p : Nat × Nat} (hp : p ∈ alignCentres v) {m : Module}
    (hm : (r, c, m) ∈ alignWrites p.1 p.2) : (structural v lvl mask test).cell r c = m := by
  have hpos := alignCentre_position h1 h40 hp
  have hnear := (names_alignWrites h1 h40 hp).1 ⟨m, hm⟩
  rw [Near] at hnear
  refine structural_cell_of_pattern h1 h40 (by omega) (by omega)
    (List.mem_append_right _ (List.mem_flatMap.2 ⟨p, hp, hm⟩)) ?_
  have hside : sideOf v = 4 * v + 17 := rfl
  rw [names_infoWrites h1, InFormat, InVersion]
  omega

/-- Where a timing line crosses an alignment pattern they agree, since the centre's coordinates are even (R203, R205). -/
theorem patternWrites_of_timing {m : Module} (hm : (r, c, m) ∈ patternWrites v) (hon : OnTiming (sideOf v) r c = true) :
    m = Module.ofBool ((r + c) % 2 == 0) := by
  have hn := sideOf_ge h1
  rw [onTiming_iff] at hon
  rcases List.mem_append.1 hm with hm | hm
  · have hin := (names_allFinderWrites hn).1 ⟨m, hm⟩
    rw [InFinder] at hin
    omega
  · obtain ⟨p, hp, hm⟩ := List.mem_flatMap.1 hm
    have hpos := alignCentre_position h1 h40 hp
    obtain ⟨i, hi, j, hj, rfl, rfl, rfl⟩ := mem_alignWrites.1 hm
    simp only [Module.ofBool_eq_ite, beq_iff_eq]
    congr 1
    rw [eq_iff_iff]
    omega

/-- A cell of a timing pattern is dark where its row and column add up to an even number (R205). -/
theorem structural_cell_of_timing (hon : OnTiming (sideOf v) r c = true) :
    (structural v lvl mask test).cell r c = Module.ofBool ((r + c) % 2 == 0) := by
  have hn := sideOf_ge h1
  have hblank := Grid.blank_square (sideOf v)
  have hline := onTiming_iff.1 hon
  have hr : r < sideOf v := by omega
  have hc : c < sideOf v := by omega
  have hinfo : ¬ Names (infoWrites v (formatWord lvl mask.val) test) r c := by
    rw [names_infoWrites h1, InFormat, InVersion]
    omega
  by_cases hnames : Names (patternWrites v) r c
  · obtain ⟨m, hm⟩ := hnames
    rw [structural_cell_of_pattern h1 h40 hr hc hm hinfo]
    exact patternWrites_of_timing h1 h40 hm hon
  · rw [structural_eq_write h1 h40, Grid.cell_write_of_not_names (hblank.write _).placeTiming hr hc hinfo,
      cell_placeTiming (hblank.write _) hr hc, Grid.cell_write_of_not_names hblank hr hc hnames]
    exact if_pos ⟨Grid.cell_blank .., hon⟩

end

theorem ofBool_even_add_six (i : Nat) : Module.ofBool ((i + 6) % 2 == 0) = if i % 2 = 0 then .dark else .light := by
  have hpar : (i + 6) % 2 = i % 2 := by omega
  simp only [Module.ofBool_eq_ite, hpar, beq_iff_eq]

/-- Settles O46: every pattern is a list of writes that give a cell one value, and the lists meet only where a timing line crosses
an alignment pattern. -/
theorem formatAndVersionCellsCarryTheirWords : Obligations.FormatAndVersionCellsCarryTheirWords := by
  intro v lvl m test h1 h40
  have hn := sideOf_ge h1
  have hside : 4 * v + 17 = sideOf v := rfl
  simp only [hside]
  refine ⟨fun i hi => ?_, ?_, fun h7 i hi => ?_, fun i j hi hi9 hj hj9 => ?_, fun i hi hin => ?_,
    fun row hrow col hcol hcorner hcorner' i hi j hj => ?_⟩
  · have hm {r c : Nat} (h : r = formatRow (sideOf v) i ∧ c = 8 ∨ r = 8 ∧ c = formatCol (sideOf v) i) :=
      structural_cell_of_info h1 h40 (lvl := lvl) (mask := m) (test := test)
        (mem_infoWrites.2 (.inl (mem_formatWrites.2 ⟨i, hi, rfl, h⟩)))
    rw [← infoCell_eq]
    exact ⟨hm (.inl ⟨rfl, rfl⟩), hm (.inr ⟨rfl, rfl⟩)⟩
  · refine (structural_cell_of_info h1 h40 (mem_infoWrites.2 (.inr (.inl ⟨rfl, rfl, rfl⟩)))).trans ?_
    cases test <;> rfl
  · have hm {r c : Nat} (h : r = i / 3 ∧ c = sideOf v - 11 + i % 3 ∨ r = sideOf v - 11 + i % 3 ∧ c = i / 3) :=
      structural_cell_of_info h1 h40 (lvl := lvl) (mask := m) (test := test)
        (mem_infoWrites.2 (.inr (.inr (mem_versionWrites.2 ⟨h7, i, hi, rfl, h⟩))))
    rw [← infoCell_eq]
    exact ⟨hm (.inl ⟨rfl, rfl⟩), hm (.inr ⟨rfl, rfl⟩)⟩
  · refine ⟨structural_cell_of_finder h1 h40 ?_, structural_cell_of_finder h1 h40 ?_, structural_cell_of_finder h1 h40 ?_⟩
    · exact List.mem_append_left _ (List.mem_append_left _ (mem_finderWrites.2
        ⟨i, hi9, j, hj9, by omega, by omega, by omega, by omega, rfl⟩))
    · exact List.mem_append_left _ (List.mem_append_right _ (mem_finderWrites.2
        ⟨i - 1, by omega, j, hj9, by omega, by omega, by omega, by omega, rfl⟩))
    · exact List.mem_append_right _ (mem_finderWrites.2
        ⟨i, hi9, j - 1, by omega, by omega, by omega, by omega, by omega, rfl⟩)
  · have hcol := structural_cell_of_timing h1 h40 (lvl := lvl) (mask := m) (test := test) (r := i)
      (onTiming_iff.2 (.inl ⟨rfl, hi, by omega⟩))
    have hrow := structural_cell_of_timing h1 h40 (lvl := lvl) (mask := m) (test := test) (c := i)
      (onTiming_iff.2 (.inr ⟨rfl, hi, by omega⟩))
    rw [Nat.add_comm] at hrow
    exact ⟨hcol.trans (ofBool_even_add_six i), hrow.trans (ofBool_even_add_six i)⟩
  · exact structural_cell_of_align h1 h40 (p := (row, col)) (mem_alignCentres.2 ⟨⟨hrow, hcol⟩, by omega⟩)
      (mem_alignWrites.2 ⟨i, hi, j, hj, rfl, rfl, rfl⟩)

end Sys2Proof.Machine

namespace Sys2Proof.Machine

/-! # The number of structural cells (R203, R215) -/

/-! ## Counting the cells of disjoint rectangles -/

/-- A rectangle of cells: its first row and the number of its rows, its first column and the number of its columns. -/
structure Rect where
  top : Nat
  rows : Nat
  left : Nat
  cols : Nat

def Rect.area (R : Rect) : Nat := R.rows * R.cols

def Rect.has (R : Rect) (p : Nat × Nat) : Bool :=
  R.top ≤ p.1 && p.1 < R.top + R.rows && R.left ≤ p.2 && p.2 < R.left + R.cols

theorem Rect.has_iff {R : Rect} {p : Nat × Nat} :
    R.has p = true ↔ R.top ≤ p.1 ∧ p.1 < R.top + R.rows ∧ R.left ≤ p.2 ∧ p.2 < R.left + R.cols := by
  simp only [Rect.has, Bool.and_eq_true, decide_eq_true_eq, and_assoc]

/-- The rectangle stands in a grid of side `n`. -/
def Rect.Within (R : Rect) (n : Nat) : Prop := R.top + R.rows ≤ n ∧ R.left + R.cols ≤ n

/-- The two rectangles have no row or no column in common. -/
def Rect.Clear (R S : Rect) : Prop :=
  R.top + R.rows ≤ S.top ∨ S.top + S.rows ≤ R.top ∨ R.left + R.cols ≤ S.left ∨ S.left + S.cols ≤ R.left

theorem cellsOf_eq_product (n : Nat) : cellsOf n = List.range n ×ˢ List.range n := rfl

theorem countP_cellsOf (f : Nat × Nat → Bool) (n : Nat) :
    (cellsOf n).countP f = ((gridCells n).filter (fun p => f p = true)).card := by
  have hnodup : (cellsOf n).Nodup := List.nodup_range.product List.nodup_range
  have hcells : (cellsOf n).toFinset = gridCells n := by
    ext ⟨r, c⟩
    simp only [cellsOf_eq_product, List.mem_toFinset, List.mem_product, List.mem_range, gridCells, Finset.mem_product,
      Finset.mem_range]
  rw [List.countP_eq_length_filter, ← List.toFinset_card_of_nodup (hnodup.filter f), List.toFinset_filter, hcells]

/-- A grid has as many cells of a rectangle within it as its area. -/
theorem card_filter_has {R : Rect} {n : Nat} (h : R.Within n) :
    ((gridCells n).filter (fun p => R.has p = true)).card = R.area := by
  have hcells : (gridCells n).filter (fun p => R.has p = true) =
      Finset.Ico R.top (R.top + R.rows) ×ˢ Finset.Ico R.left (R.left + R.cols) := by
    ext p
    rw [Rect.Within] at h
    simp only [Finset.mem_filter, gridCells, Finset.mem_product, Finset.mem_range, Finset.mem_Ico, Rect.has_iff]
    omega
  rw [hcells, Finset.card_product, Nat.card_Ico, Nat.card_Ico, Nat.add_sub_cancel_left, Nat.add_sub_cancel_left, Rect.area]

/-- A grid has as many cells in rectangles that are clear of each other as their areas add up to. -/
theorem countP_any_has {n : Nat} {Rs : List Rect} (hin : ∀ R ∈ Rs, R.Within n) (hclear : Rs.Pairwise Rect.Clear) :
    (cellsOf n).countP (fun p => Rs.any (fun R => R.has p)) = (Rs.map Rect.area).sum := by
  induction Rs with
  | nil => simp only [List.any_nil, List.countP_false, List.map_nil, List.sum_nil, Function.const_apply]
  | cons R Rs ih =>
    obtain ⟨hR, hin⟩ := List.forall_mem_cons.1 hin
    obtain ⟨hhead, hclear⟩ := List.pairwise_cons.1 hclear
    have hdisjoint : Disjoint ((gridCells n).filter (fun p => R.has p = true))
        ((gridCells n).filter (fun p => Rs.any (fun S => S.has p) = true)) := by
      refine Finset.disjoint_filter.2 fun p _ hp hany => ?_
      obtain ⟨S, hS, hpS⟩ := List.any_eq_true.1 hany
      have := hhead S hS
      rw [Rect.Clear] at this
      rw [Rect.has_iff] at hp hpS
      omega
    simp only [List.map_cons, List.sum_cons, ← ih hin hclear, ← card_filter_has hR, countP_cellsOf, List.any_cons,
      Bool.or_eq_true, Finset.filter_or, Finset.card_union_of_disjoint hdisjoint]

/-! ## The structural cells as disjoint rectangles -/

/-- The rectangles of the finder patterns with the format words about them, and of the timing patterns between (R202, R205, R207,
R208). -/
def frameRects (n : Nat) : List Rect :=
  [⟨0, 9, 0, 9⟩, ⟨0, 9, n - 8, 8⟩, ⟨n - 8, 8, 0, 9⟩, ⟨6, 1, 9, n - 17⟩, ⟨9, n - 17, 6, 1⟩]

/-- The rectangles of the version words (R210). -/
def versionRects (v : Nat) : List Rect :=
  if 7 ≤ v then [⟨0, 6, sideOf v - 11, 3⟩, ⟨sideOf v - 11, 3, 0, 6⟩] else []

/-- The rectangles of the alignment pattern at a centre, without the cells on a timing line (R204). -/
def alignRects (p : Nat × Nat) : List Rect :=
  if p.1 = 6 then [⟨4, 2, p.2 - 2, 5⟩, ⟨7, 2, p.2 - 2, 5⟩]
  else if p.2 = 6 then [⟨p.1 - 2, 5, 4, 2⟩, ⟨p.1 - 2, 5, 7, 2⟩]
  else [⟨p.1 - 2, 5, p.2 - 2, 5⟩]

/-- The rectangles of all structural patterns (R201). -/
def structuralRects (v : Nat) : List Rect := frameRects (sideOf v) ++ versionRects v ++ (alignCentres v).flatMap alignRects

theorem any_frameRects_iff {n r c : Nat} (hn : 21 ≤ n) (hr : r < n) (hc : c < n) :
    (frameRects n).any (fun R => R.has (r, c)) = true ↔
      InFinder n r c ∨ OnTiming n r c = true ∨ InFormat n r c ∨ r = n - 8 ∧ c = 8 := by
  rw [onTiming_iff, InFinder, InFormat]
  simp only [frameRects, List.any_cons, List.any_nil, Bool.or_eq_true, Rect.has_iff, Bool.or_false]
  constructor
  · rintro (h | h | h | h | h) <;> omega
  · rintro ((h | h | h) | (h | h) | (h | h) | h) <;> omega

theorem any_versionRects_iff {v r c : Nat} (h1 : 1 ≤ v) :
    (versionRects v).any (fun R => R.has (r, c)) = true ↔ 7 ≤ v ∧ InVersion (sideOf v) r c := by
  have hn := sideOf_ge h1
  rw [versionRects, InVersion]
  split_ifs with h7
  · simp only [List.any_cons, List.any_nil, Bool.or_eq_true, Rect.has_iff, Bool.or_false]
    omega
  · exact iff_of_false Bool.false_ne_true fun h => h7 h.1

theorem any_alignRects_iff {v : Nat} (h1 : 1 ≤ v) (h40 : v ≤ 40) {p : Nat × Nat} (hp : p ∈ alignCentres v) {r c : Nat} :
    (alignRects p).any (fun R => R.has (r, c)) = true ↔ Near p r c ∧ ¬ (p.1 = 6 ∧ r = 6) ∧ ¬ (p.2 = 6 ∧ c = 6) := by
  have hpos := alignCentre_position h1 h40 hp
  rw [alignRects, Near]
  split_ifs <;> simp only [List.any_cons, List.any_nil, Bool.or_eq_true, Rect.has_iff, Bool.or_false] <;> omega

/-- The rectangles cover exactly the structural cells: those of an alignment pattern that its rectangles leave out stand on a timing
line (R201). -/
theorem any_structuralRects_iff {v : Nat} (h1 : 1 ≤ v) (h40 : v ≤ 40) {lvl : Level} {mask : Fin 8} {test : Bool} {r c : Nat}
    (hr : r < sideOf v) (hc : c < sideOf v) :
    (structuralRects v).any (fun R => R.has (r, c)) = true ↔ (structural v lvl mask test).cell r c ≠ .unset := by
  rw [structuralRects, List.any_append, List.any_append, Bool.or_eq_true, Bool.or_eq_true,
    any_frameRects_iff (sideOf_ge h1) hr hc, any_versionRects_iff h1, List.any_flatMap, List.any_eq_true, ne_eq,
    structural_eq_unset_iff h1 h40 hr hc, names_patternWrites h1 h40, names_infoWrites h1, ← not_or, ← not_or, not_not]
  constructor
  · rintro (((hfinder | htiming | hformat | hdark) | hversion) | ⟨p, hp, hany⟩)
    · exact .inl (.inl hfinder)
    · exact .inr (.inl htiming)
    · exact .inr (.inr (.inl hformat))
    · exact .inr (.inr (.inr (.inl hdark)))
    · exact .inr (.inr (.inr (.inr hversion)))
    · exact .inl (.inr ⟨p, hp, ((any_alignRects_iff h1 h40 hp).1 hany).1⟩)
  · rintro ((hfinder | ⟨p, hp, hnear⟩) | htiming | hformat | hdark | hversion)
    · exact .inl (.inl (.inl hfinder))
    · by_cases hline : p.1 = 6 ∧ r = 6 ∨ p.2 = 6 ∧ c = 6
      · have hpos := alignCentre_position h1 h40 hp
        rw [Near] at hnear
        exact .inl (.inl (.inr (.inl (onTiming_iff.2 (by omega)))))
      · exact .inr ⟨p, hp, (any_alignRects_iff h1 h40 hp).2 ⟨hnear, not_or.1 hline⟩⟩
    · exact .inl (.inl (.inr (.inl htiming)))
    · exact .inl (.inl (.inr (.inr (.inl hformat))))
    · exact .inl (.inl (.inr (.inr (.inr hdark))))
    · exact .inl (.inr hversion)

/-! ## The rectangles are in the grid and clear of each other -/

theorem frameRects_within {n : Nat} (hn : 21 ≤ n) : ∀ R ∈ frameRects n, R.Within n := by
  simp only [frameRects, List.forall_mem_cons, Rect.Within]
  refine ⟨?_, ?_, ?_, ?_, ?_, List.forall_mem_nil _⟩ <;> omega

theorem frameRects_clear {n : Nat} (hn : 21 ≤ n) : (frameRects n).Pairwise Rect.Clear := by
  simp only [frameRects, List.pairwise_cons, List.forall_mem_cons, Rect.Clear, List.not_mem_nil, false_imp_iff, imp_true_iff,
    List.Pairwise.nil, and_true]
  omega

/-- A version rectangle stands in the first six rows or columns beside the finder pattern (R210). -/
theorem mem_versionRects {v : Nat} {R : Rect} (hR : R ∈ versionRects v) :
    7 ≤ v ∧ (R = ⟨0, 6, sideOf v - 11, 3⟩ ∨ R = ⟨sideOf v - 11, 3, 0, 6⟩) := by
  rw [versionRects] at hR
  split_ifs at hR with h7
  · simpa [h7] using hR
  · cases hR

theorem versionRects_clear {v : Nat} : (versionRects v).Pairwise Rect.Clear := by
  rw [versionRects]
  split_ifs with h7
  · have hside : sideOf v = 4 * v + 17 := rfl
    refine List.pairwise_pair.2 ?_
    rw [Rect.Clear]
    dsimp only
    omega
  · exact List.Pairwise.nil

/-- The rectangles of an alignment pattern are part of it, off the timing lines (R204). -/
theorem alignRects_position {p : Nat × Nat} (hp : 6 ≤ p.1 ∧ 6 ≤ p.2) {R : Rect} (hR : R ∈ alignRects p) :
    (p.1 ≤ R.top + 2 ∧ R.top + R.rows ≤ p.1 + 3 ∧ p.2 ≤ R.left + 2 ∧ R.left + R.cols ≤ p.2 + 3) ∧
      (p.1 = 6 → R.top + R.rows ≤ 6 ∨ 7 ≤ R.top) ∧ (p.2 = 6 → p.1 ≠ 6 → R.left + R.cols ≤ 6 ∨ 7 ≤ R.left) := by
  rw [alignRects] at hR
  split_ifs at hR <;> simp only [List.mem_cons, List.not_mem_nil, or_false] at hR
  · rcases hR with rfl | rfl <;> dsimp only <;> omega
  · rcases hR with rfl | rfl <;> dsimp only <;> omega
  · subst hR
    dsimp only
    omega

theorem alignRects_clear (p : Nat × Nat) : (alignRects p).Pairwise Rect.Clear := by
  rw [alignRects]
  split_ifs
  · exact List.pairwise_pair.2 (.inl (by dsimp only; decide))
  · exact List.pairwise_pair.2 (.inr (.inr (.inl (by dsimp only; decide))))
  · exact List.pairwise_singleton _ _

section
variable {v : Nat} (h1 : 1 ≤ v) (h40 : v ≤ 40)
include h1 h40

theorem alignCentre_ge {p : Nat × Nat} (hp : p ∈ alignCentres v) : 6 ≤ p.1 ∧ 6 ≤ p.2 := by
  obtain ⟨-, ⟨hrow, -, hcol, -⟩, -⟩ := alignCentre_position h1 h40 hp
  exact ⟨hrow, hcol⟩

theorem structuralRects_within : ∀ R ∈ structuralRects v, R.Within (sideOf v) := by
  have hn := sideOf_ge h1
  simp only [structuralRects, List.mem_append, List.mem_flatMap]
  rintro R ((hR | hR) | ⟨p, hp, hR⟩)
  · exact frameRects_within hn R hR
  · obtain ⟨h7, rfl | rfl⟩ := mem_versionRects hR <;> rw [Rect.Within] <;> dsimp only <;> omega
  · have hpos := alignCentre_position h1 h40 hp
    have hin := alignRects_position (alignCentre_ge h1 h40 hp) hR
    rw [Rect.Within]
    omega

theorem structuralRects_clear : (structuralRects v).Pairwise Rect.Clear := by
  have hn := sideOf_ge h1
  have hside : sideOf v = 4 * v + 17 := rfl
  refine List.pairwise_append.2 ⟨List.pairwise_append.2 ⟨frameRects_clear hn, versionRects_clear, fun R hR S hS => ?_⟩, ?_,
    fun R hR S hS => ?_⟩
  · obtain ⟨h7, hS⟩ := mem_versionRects hS
    simp only [frameRects, List.mem_cons, List.not_mem_nil, or_false] at hR
    rw [Rect.Clear]
    rcases hS with rfl | rfl <;> rcases hR with rfl | rfl | rfl | rfl | rfl <;> dsimp only <;> omega
  · refine List.pairwise_flatMap.2 ⟨fun p _ => alignRects_clear p, ?_⟩
    refine ((pairs_apart (alignCoords_pairwise h1 h40)).filter _).imp_of_mem fun {p q} hp hq hpq R hR S hS => ?_
    obtain ⟨⟨htop, hbottom, hleft, hright⟩, -⟩ := alignRects_position (alignCentre_ge h1 h40 hp) hR
    obtain ⟨⟨htop', hbottom', hleft', hright'⟩, -⟩ := alignRects_position (alignCentre_ge h1 h40 hq) hS
    rcases hpq with h | h | h | h
    · exact .inl (by omega)
    · exact .inr (.inl (by omega))
    · exact .inr (.inr (.inl (by omega)))
    · exact .inr (.inr (.inr (by omega)))
  · obtain ⟨p, hp, hS⟩ := List.mem_flatMap.1 hS
    have hpos := alignCentre_position h1 h40 hp
    have hin := alignRects_position (alignCentre_ge h1 h40 hp) hS
    rw [Rect.Clear]
    rcases List.mem_append.1 hR with hR | hR
    · simp only [frameRects, List.mem_cons, List.not_mem_nil, or_false] at hR
      rcases hR with rfl | rfl | rfl | rfl | rfl <;> dsimp only <;> omega
    · obtain ⟨h7, rfl | rfl⟩ := mem_versionRects hR <;> dsimp only <;> omega

end

/-- The areas add up to what the raw module count leaves of the grid (R134, R215). -/
theorem structuralRects_area : ∀ k < 40,
    ((structuralRects (k + 1)).map Rect.area).sum + rawModules (k + 1) = sideOf (k + 1) * sideOf (k + 1) := by decide +kernel

/-- Settles O47: the structural cells are disjoint rectangles, whose areas and the raw module count add up to the grid's cells. -/
theorem unsetCellsMatchCapacity : Obligations.UnsetCellsMatchCapacity := by
  intro v lvl m test h1 h40
  obtain ⟨k, rfl⟩ := Nat.exists_eq_add_of_le' h1
  refine ⟨?_, alignCoords_closedForm k h40⟩
  have hset := countP_any_has (structuralRects_within h1 h40) (structuralRects_clear h1 h40)
  have harea := structuralRects_area k h40
  have hlen : (cellsOf (sideOf (k + 1))).length = sideOf (k + 1) * sideOf (k + 1) := by
    rw [cellsOf_eq_product, List.length_product, List.length_range]
  have hsplit := List.length_eq_countP_add_countP (l := cellsOf (sideOf (k + 1)))
    (fun p => (structuralRects (k + 1)).any (fun R => R.has p))
  have hunset : (cellsOf (sideOf (k + 1))).countP (fun p => (structural (k + 1) lvl m test).cell p.1 p.2 == .unset) =
      (cellsOf (sideOf (k + 1))).countP (fun p => decide (¬ (structuralRects (k + 1)).any (fun R => R.has p) = true)) := by
    refine List.countP_congr fun p hp => ?_
    rw [cellsOf_eq_product, List.mem_product, List.mem_range, List.mem_range] at hp
    rw [beq_iff_eq, decide_eq_true_eq, any_structuralRects_iff h1 h40 hp.1 hp.2, not_not]
  omega

end Sys2Proof.Machine

namespace Sys2Proof.Machine

/-! # The choice of the mask (R245) -/

/-- Among the masks of a list, `b` has the least `Q` and every lower index a greater one (R245). -/
def IsLowestOfLeast (q : Fin 8 → Nat) (ms : List (Fin 8)) (b : Fin 8) : Prop :=
  b ∈ ms ∧ ∀ m ∈ ms, q b ≤ q m ∧ (m < b → q b < q m)

/-- Trials in rising order choose the lowest index of the least `Q` among the best so far and them (R245). -/
theorem bestFrom_isLowestOfLeast (q : Fin 8 → Nat) {best : Fin 8} {ms : List (Fin 8)} (h : (best :: ms).Pairwise (· < ·)) :
    IsLowestOfLeast q (best :: ms) (bestFrom best (q best) (ms.map (fun m => (m, q m)))) := by
  induction ms generalizing best with
  | nil => simp [IsLowestOfLeast, bestFrom]
  | cons m ms ih =>
    obtain ⟨hbest, hms⟩ := List.pairwise_cons.1 h
    have hlt : best < m := hbest m List.mem_cons_self
    rw [List.map_cons, bestFrom]
    split
    · next hworse =>
      obtain ⟨hmem, hleast⟩ := ih hms
      have hm := (hleast m List.mem_cons_self).1
      exact ⟨List.mem_cons_of_mem _ hmem, List.forall_mem_cons.2 ⟨⟨by omega, fun _ => by omega⟩, hleast⟩⟩
    · next hbetter =>
      have hskip : (best :: ms).Pairwise (· < ·) := h.sublist (.cons_cons best (List.sublist_cons_self m ms))
      obtain ⟨hmem, hleast⟩ := ih hskip
      obtain ⟨⟨hle, hlow⟩, hleast⟩ := List.forall_mem_cons.1 hleast
      refine ⟨List.cons_subset_cons best (List.subset_cons_self m ms) hmem,
        List.forall_mem_cons.2 ⟨⟨hle, hlow⟩, List.forall_mem_cons.2 ⟨⟨by omega, fun hm => ?_⟩, hleast⟩⟩⟩
      have := hlow (hlt.trans hm)
      omega

/-- Settles O52: a later trial replaces the best so far only with a strictly lower `Q`. -/
theorem bestMaskIsLowestIndexOfLeastQ : Obligations.BestMaskIsLowestIndexOfLeastQ := by
  rintro q _ rfl
  have hall : ∀ m : Fin 8, m ∈ maskIndices := by decide
  obtain ⟨-, hleast⟩ := bestFrom_isLowestOfLeast q (best := 0) (ms := [1, 2, 3, 4, 5, 6, 7]) (by decide)
  exact ⟨fun m => (hleast m (hall m)).1, fun m => (hleast m (hall m)).2⟩

/-! # The commands RENDER and MASK_EVAL (R246, R248) -/

/-- An operand that is a mask index is the number of the mask it names (R82, R230). -/
theorem word_val_eq {w : Word} {m : Fin 8} (h : w.toNat = m.val) : word m.val = w := by
  rw [← h, word, BitVec.ofNat_toNat, BitVec.setWidth_eq]

/-- RENDER outside MADE is STATE (R246). -/
theorem execRender_of_not_made {s : State} (h : s.symState ≠ .made) : execRender s = raise .state s := if_pos h

/-- RENDER of a mask above 7 or a test flag above 1 is DOMAIN (R246). -/
theorem execRender_of_outOfRange {s : State} (hmade : s.symState = .made) (h : 7 < s.arg0 ∨ 1 < s.arg1) :
    execRender s = raise .domain s := by
  rw [execRender, if_neg (not_not.2 hmade)]
  cases hm : maskIndex? s.arg0 with
  | none => rfl
  | some m =>
    have := m.isLt
    rw [maskIndex?_eq_some] at hm
    exact if_pos (by omega)

/-- RENDER of a mask and a test flag redraws the symbol (R246). -/
theorem execRender_of_mask {s : State} {m : Fin 8} (hmade : s.symState = .made) (hm : s.arg0 = m.val) (htest : s.arg1 ≤ 1) :
    execRender s =
      succeed { s with grid := render s.versionEff s.level s.cw m (s.arg1 == 1), final := false } (Quad.one (word m.val)) := by
  rw [execRender, if_neg (not_not.2 hmade), maskIndex?_eq_some.2 hm.symm]
  exact if_neg (by omega)

/-- Settles O49: the three ends of RENDER. -/
theorem renderRedrawsMadeSymbol : Obligations.RenderRedrawsMadeSymbol := by
  intro s
  refine ⟨fun h => endsWith_of_raise (execRender_of_not_made h),
    fun hmade h => endsWith_of_raise (execRender_of_outOfRange hmade h), fun m hmade hm htest => ?_⟩
  calc exec .render s
      = succeed { s with grid := render s.versionEff s.level s.cw m (s.arg1 == 1), final := false } (Quad.one (word m.val)) :=
        execRender_of_mask hmade hm htest
    _ = _ := by rw [word_val_eq hm]; rfl

/-- MASK_EVAL of a mask above 7 or a coordinate above 255 is DOMAIN (R248). -/
theorem execMaskEval_of_outOfRange {s : State} (h : 7 < s.arg0 ∨ 255 < s.arg1 ∨ 255 < s.arg2) :
    execMaskEval s = raise .domain s := by
  rw [execMaskEval]
  cases hm : maskIndex? s.arg0 with
  | none => rfl
  | some m =>
    have := m.isLt
    rw [maskIndex?_eq_some] at hm
    exact if_pos (by omega)

/-- MASK_EVAL of a mask at a cell gives its mask function there (R248). -/
theorem execMaskEval_of_mask {s : State} {m : Fin 8} (hm : s.arg0 = m.val) (h1 : s.arg1 ≤ 255) (h2 : s.arg2 ≤ 255) :
    execMaskEval s = succeed s (Quad.one (if maskFn m s.arg1 s.arg2 then 1 else 0)) := by
  have hbit (b : Bool) : word b.toNat = if b then 1 else 0 := by cases b <;> rfl
  rw [execMaskEval, maskIndex?_eq_some.2 hm.symm, ← hbit]
  exact if_neg (by omega)

/-- Settles O51: the mask function of each index is its formula. -/
theorem maskEvalGivesFormula : Obligations.MaskEvalGivesFormula := by
  intro s
  refine ⟨fun h => endsWith_of_raise (execMaskEval_of_outOfRange h), ?_⟩
  rintro hmask _ _ rfl rfl hi hj
  obtain ⟨m, hm⟩ : ∃ m : Fin 8, s.arg.w0.toNat = m.val := ⟨⟨_, Nat.lt_succ_of_le hmask⟩, rfl⟩
  have hindex (k : Fin 8) (hk : s.arg.w0.toNat = k.val) : m = k := Fin.ext (hm.symm.trans hk)
  refine ⟨_, answers_of_succeed (execMaskEval_of_mask hm hi hj), fun h => ?_, fun h => ?_, fun h => ?_, fun h => ?_,
    fun h => ?_, fun h => ?_, fun h => ?_, fun h => ?_⟩
  · exact hindex 0 h ▸ beq_iff_eq
  · exact hindex 1 h ▸ beq_iff_eq
  · exact hindex 2 h ▸ beq_iff_eq
  · exact hindex 3 h ▸ beq_iff_eq
  · exact hindex 4 h ▸ beq_iff_eq
  · exact hindex 5 h ▸ beq_iff_eq
  · exact hindex 6 h ▸ beq_iff_eq
  · exact hindex 7 h ▸ beq_iff_eq

end Sys2Proof.Machine

namespace Sys2Proof.Machine

/-! # Penalty scoring (R240 to R244, R247) -/

/-! ## Sums and counts over the cells -/

theorem sum_map_cellsOf (f : Nat × Nat → Nat) (n : Nat) : ((cellsOf n).map f).sum = ∑ p ∈ gridCells n, f p := by
  have hnodup : (cellsOf n).Nodup := List.nodup_range.product List.nodup_range
  have hcells : (cellsOf n).toFinset = gridCells n := by
    ext ⟨r, c⟩
    simp only [cellsOf_eq_product, List.mem_toFinset, List.mem_product, List.mem_range, gridCells, Finset.mem_product,
      Finset.mem_range]
  rw [← List.sum_toFinset f hnodup, hcells]

theorem card_gridCells (n : Nat) : (gridCells n).card = n * n := by
  rw [gridCells, Finset.card_product, Finset.card_range]

theorem countP_range (f : Nat → Bool) (n : Nat) :
    (List.range n).countP f = ((Finset.range n).filter (fun k => f k = true)).card := by
  simp only [← Nat.count_eq_card_filter_range, Nat.count, Bool.decide_eq_true]

/-! ## Level 1: the neighbours (R240) -/

theorem mem_neighbours {n r c : Nat} {q : Nat × Nat} :
    q ∈ neighbours n r c ↔
      q ∈ gridCells n ∧ q ≠ (r, c) ∧ q.1 ≤ r + 1 ∧ r ≤ q.1 + 1 ∧ q.2 ≤ c + 1 ∧ c ≤ q.2 + 1 := by
  obtain ⟨r', c'⟩ := q
  simp only [neighbours, List.mem_flatMap, List.mem_filterMap, List.mem_range, Option.ite_none_left_eq_some, Option.some.injEq,
    Prod.mk.injEq, gridCells, Finset.mem_product, Finset.mem_range, ne_eq]
  constructor
  · rintro ⟨i, hi, j, hj, hin, rfl, rfl⟩
    omega
  · rintro h
    exact ⟨r' + 1 - r, by omega, c' + 1 - c, by omega, by omega, by omega, by omega⟩

theorem neighbours_nodup (n r c : Nat) : (neighbours n r c).Nodup := by
  refine List.nodup_flatMap.2 ⟨fun i _ => List.nodup_range.filterMap fun j j' q hj hj' => ?_,
    List.nodup_range.imp fun {i i'} hne q hi hi' => ?_⟩
  · simp only [Option.mem_def, Option.ite_none_left_eq_some, Option.some.injEq, Prod.ext_iff] at hj hj'
    omega
  · simp only [List.mem_filterMap, Option.ite_none_left_eq_some, Option.some.injEq, Prod.ext_iff] at hi hi'
    obtain ⟨j, -, hj⟩ := hi
    obtain ⟨j', -, hj'⟩ := hi'
    omega

/-- The neighbours of a cell's colour are the cells of its colour around it (R240). -/
theorem countP_neighbours (g : Grid) (n : Nat) (p : Nat × Nat) :
    (neighbours n p.1 p.2).countP (fun q => g.cell q.1 q.2 == g.cell p.1 p.2) = (alikeAround g n p).card := by
  rw [List.countP_eq_length_filter, ← List.toFinset_card_of_nodup ((neighbours_nodup n p.1 p.2).filter _)]
  congr 1
  ext q
  simp only [List.toFinset_filter, Finset.mem_filter, List.mem_toFinset, mem_neighbours, alikeAround, beq_iff_eq, and_assoc]

theorem cellScore_eq (g : Grid) (n : Nat) (p : Nat × Nat) :
    cellScore g n p.1 p.2 = if 5 < (alikeAround g n p).card then 3 + ((alikeAround g n p).card - 5) else 0 := by
  rw [cellScore, countP_neighbours]

theorem penalty1_eq_sum (g : Grid) (n : Nat) :
    penalty1 g n =
      (gridCells n).sum (fun p => if 5 < (alikeAround g n p).card then 3 + ((alikeAround g n p).card - 5) else 0) := by
  rw [penalty1, sum_map_cellsOf]
  exact Finset.sum_congr rfl fun p _ => cellScore_eq g n p

/-- A cell has at most eight neighbours: the 3 by 3 window without the cell itself (R240). -/
theorem card_alikeAround_le (g : Grid) (n : Nat) (p : Nat × Nat) : (alikeAround g n p).card ≤ 8 := by
  have hwindow : alikeAround g n p ⊆ (Finset.Icc (p.1 - 1) (p.1 + 1) ×ˢ Finset.Icc (p.2 - 1) (p.2 + 1)).erase p := by
    intro q hq
    obtain ⟨-, hne, hwindow⟩ := Finset.mem_filter.1 hq
    simp only [Finset.mem_erase, Finset.mem_product, Finset.mem_Icc]
    exact ⟨hne, by omega, by omega⟩
  have hself : p ∈ Finset.Icc (p.1 - 1) (p.1 + 1) ×ˢ Finset.Icc (p.2 - 1) (p.2 + 1) := by
    simp only [Finset.mem_product, Finset.mem_Icc]
    omega
  have hside (k : Nat) : (Finset.Icc (k - 1) (k + 1)).card ≤ 3 := by
    rw [Nat.card_Icc]
    omega
  have hcard := Nat.mul_le_mul (hside p.1) (hside p.2)
  have hle := Finset.card_le_card hwindow
  rw [Finset.card_erase_of_mem hself, Finset.card_product] at hle
  omega

theorem penalty1_le (g : Grid) (n : Nat) : penalty1 g n ≤ 6 * (n * n) := by
  rw [penalty1_eq_sum, Nat.mul_comm, ← card_gridCells, ← smul_eq_mul]
  refine Finset.sum_le_card_nsmul _ _ _ fun p _ => ?_
  have := card_alikeAround_le g n p
  split <;> omega

/-! ## Level 2: the blocks (R241) -/

theorem penalty2_eq_card (g : Grid) (n : Nat) :
    penalty2 g n =
      3 * ((gridCells (n - 1)).filter (fun p =>
        g.cell p.1 p.2 = g.cell (p.1 + 1) p.2 ∧ g.cell p.1 p.2 = g.cell p.1 (p.2 + 1) ∧
          g.cell p.1 p.2 = g.cell (p.1 + 1) (p.2 + 1))).card := by
  simp only [penalty2, countP_cellsOf, blockAlike, Bool.and_eq_true, beq_iff_eq, and_assoc]

theorem penalty2_le (g : Grid) (n : Nat) : penalty2 g n ≤ 3 * ((n - 1) * (n - 1)) := by
  rw [penalty2_eq_card, ← card_gridCells]
  exact Nat.mul_le_mul_left 3 (Finset.card_filter_le _ _)

/-! ## Level 3: the finder-like runs (R242) -/

/-- A line of seven cells is the run when each cell has its colour (R242). -/
theorem map_range_beq_finderRun (f : Nat → Module) :
    ((List.range 7).map f == finderRun) = true ↔
      ∀ t < 7, f t = [Module.dark, .light, .dark, .dark, .dark, .light, .dark].getD t .unset := by
  rw [beq_iff_eq]
  constructor
  · rintro h t ht
    change f t = finderRun.getD t .unset
    rw [← h, List.getD_eq_getElem _ _ (by simpa using ht), List.getElem_map, List.getElem_range]
  · rintro h
    refine List.ext_getElem (by simp [finderRun]) fun t ht ht' => ?_
    rw [List.getElem_map, List.getElem_range, h t (by simpa using ht)]
    exact List.getD_eq_getElem _ _ ht'

/-- The starts that a test accepts, line by line, are the accepted pairs of a line and a start in it (R242). -/
theorem sum_countP_starts (f : Nat → Nat → Bool) (n : Nat) :
    ((List.range n).map (fun r => (List.range (n - 6)).countP (f r))).sum =
      ((Finset.range n ×ˢ Finset.range (n - 6)).filter (fun p => f p.1 p.2 = true)).card := by
  rw [← List.sum_toFinset _ List.nodup_range, List.toFinset_range, Finset.card_filter, Finset.sum_product]
  exact Finset.sum_congr rfl fun r _ => by rw [countP_range, Finset.card_filter]

theorem sum_countP_rows (g : Grid) (n : Nat) :
    ((List.range n).map (fun r => (List.range (n - 6)).countP (fun c => runInRow g r c))).sum =
      ((gridCells n).filter (fun p => p.2 + 7 ≤ n ∧
        ∀ t < 7, g.cell p.1 (p.2 + t) = [Module.dark, .light, .dark, .dark, .dark, .light, .dark].getD t .unset)).card := by
  rw [sum_countP_starts]
  congr 1
  ext p
  simp only [Finset.mem_filter, Finset.mem_product, Finset.mem_range, gridCells, runInRow, map_range_beq_finderRun, ← and_assoc]
  refine and_congr_left fun _ => ?_
  omega

theorem sum_countP_cols (g : Grid) (n : Nat) :
    ((List.range n).map (fun c => (List.range (n - 6)).countP (fun r => runInCol g r c))).sum =
      ((gridCells n).filter (fun p => p.1 + 7 ≤ n ∧
        ∀ t < 7, g.cell (p.1 + t) p.2 = [Module.dark, .light, .dark, .dark, .dark, .light, .dark].getD t .unset)).card := by
  rw [sum_countP_starts (fun c r => runInCol g r c), ← Finset.card_map (Equiv.prodComm Nat Nat).toEmbedding]
  congr 1
  ext ⟨r, c⟩
  simp only [Finset.mem_map_equiv, Equiv.prodComm_symm, Equiv.prodComm_apply, Prod.swap_prod_mk, Finset.mem_filter,
    Finset.mem_product, Finset.mem_range, gridCells, runInCol, map_range_beq_finderRun, ← and_assoc]
  refine and_congr_left fun _ => ?_
  omega

theorem penalty3_le (g : Grid) (n : Nat) : penalty3 g n ≤ 80 * n * (n - 6) := by
  have hcount (f : Nat → Nat → Bool) : ((List.range n).map (fun r => (List.range (n - 6)).countP (f r))).sum ≤ n * (n - 6) := by
    rw [sum_countP_starts]
    refine (Finset.card_filter_le _ _).trans_eq ?_
    rw [Finset.card_product, Finset.card_range, Finset.card_range]
  have hrows := hcount (fun r c => runInRow g r c)
  have hcols := hcount (fun c r => runInCol g r c)
  rw [penalty3, Nat.mul_assoc]
  omega

/-! ## The dark count and the comparison value (R243, R244) -/

theorem darkCount_eq_card (g : Grid) (n : Nat) :
    darkCount g n = ((gridCells n).filter (fun p => g.cell p.1 p.2 = .dark)).card := by
  simp only [darkCount, countP_cellsOf, beq_iff_eq]

theorem darkCount_le (g : Grid) (n : Nat) : darkCount g n ≤ n * n := by
  rw [darkCount_eq_card, ← card_gridCells]
  exact Finset.card_filter_le _ _

theorem Score.q_cast (x : Score) (n : Nat) :
    (x.q n : Int) = n * n * (x.p1 + x.p2 + x.p3) + |200 * (x.dark : Int) - 100 * (n * n)| := by
  rw [Score.q, Score.p123]
  push_cast
  rfl

/-! ## PENALTY -/

/-- PENALTY outside MADE is STATE (R247). -/
theorem execPenalty_of_not_made {s : State} (h : s.symState ≠ .made) : execPenalty s = raise .state s := if_pos h

/-- PENALTY in MADE reports the score of the grid (R247). -/
theorem execPenalty_of_made {s : State} (h : s.symState = .made) :
    execPenalty s =
      succeed s ⟨word (penalty1 s.grid s.moduleCount), word (penalty2 s.grid s.moduleCount),
        word (penalty3 s.grid s.moduleCount), word (darkCount s.grid s.moduleCount)⟩ := if_neg (not_not.2 h)

/-- Settles O50: each level is a count or a sum over cells, which its windows, blocks and starts bound. -/
theorem penaltyReportsScore : Obligations.PenaltyReportsScore := by
  refine ⟨fun s => ⟨fun h => endsWith_of_raise (execPenalty_of_not_made h),
    fun h => answers_of_succeed (execPenalty_of_made h)⟩, fun g n => ?_⟩
  refine ⟨penalty1_eq_sum g n, penalty2_eq_card g n, ?_, darkCount_eq_card g n, rfl, (score g n).q_cast n, penalty1_le g n,
    penalty2_le g n, penalty3_le g n, darkCount_le g n⟩
  rw [← sum_countP_rows, ← sum_countP_cols]
  rfl

end Sys2Proof.Machine

namespace Sys2Proof.Machine

/-! # The traversal (R231) -/

/-- The right column of a column pair, the pairs counted from the left and column 6 skipped (R231). -/
def rightColumn (i : Nat) : Nat := if i < 3 then 2 * i + 1 else 2 * i + 2

/-- The traversal enters the last `j` pairs at column 2 j, or one less left of the skipped column (R231). -/
theorem pairColumns_eq {fuel j : Nat} (h : j ≤ fuel) :
    pairColumns fuel (if j < 3 then 2 * j - 1 else 2 * j) = ((List.range j).map rightColumn).reverse := by
  induction j generalizing fuel with
  | zero => cases fuel <;> rfl
  | succ j ih =>
    obtain ⟨fuel, rfl⟩ := Nat.exists_eq_add_of_le' h
    have hcolumn : (if (if j + 1 < 3 then 2 * (j + 1) - 1 else 2 * (j + 1)) = 6 then 5
        else if j + 1 < 3 then 2 * (j + 1) - 1 else 2 * (j + 1)) = rightColumn j := by
      rw [rightColumn]
      split_ifs <;> omega
    have hnext : rightColumn j - 2 = if j < 3 then 2 * j - 1 else 2 * j := by
      rw [rightColumn]
      split_ifs <;> omega
    rw [← Nat.add_assoc, pairColumns, if_neg (by split <;> omega)]
    dsimp only
    rw [hcolumn, hnext, ih (by omega), List.range_succ, List.map_append, List.reverse_append]
    rfl

/-- The whole traversal takes `2v + 8` pairs, from the right (R231). -/
theorem pairColumns_sideOf (v : Nat) :
    pairColumns (sideOf v) (sideOf v - 1) = ((List.range (2 * v + 8)).map rightColumn).reverse := by
  rw [← pairColumns_eq (fuel := sideOf v) (by rw [sideOf]; omega), if_neg (by omega), sideOf]
  congr 1
  omega

/-- A pair of columns taken row by row, the right cell before the left, in any order of the rows (R231). -/
theorem rowPairs_getElem? (row : Nat → Nat) (col : Nat) {n t : Nat} (ht : t < 2 * n) :
    ((List.range n).flatMap (fun k => [(row k, col), (row k, col - 1)]))[t]? = some (row (t / 2), col - t % 2) := by
  induction n with
  | zero => omega
  | succ n ih =>
    have hlen : ((List.range n).flatMap (fun k => [(row k, col), (row k, col - 1)])).length = 2 * n := by
      simp [List.length_flatMap, Nat.mul_comm]
    rw [List.range_succ, List.flatMap_append, List.getElem?_append, hlen]
    split
    · next hlt => exact ih hlt
    · next hge =>
      obtain rfl | rfl : t = 2 * n ∨ t = 2 * n + 1 := by omega
      · simp
      · simp [Nat.mul_add_div]

theorem pairCells_length (n col : Nat) (up : Bool) : (pairCells n col up).length = 2 * n := by
  simp [pairCells, List.length_flatMap, Nat.mul_comm]

theorem pairCells_getElem? (col : Nat) (up : Bool) {n t : Nat} (ht : t < 2 * n) :
    (pairCells n col up)[t]? = some (if up then n - 1 - t / 2 else t / 2, col - t % 2) :=
  rowPairs_getElem? (fun k => if up then n - 1 - k else k) col ht

theorem zigzagFrom_length (n : Nat) (up : Bool) (cols : List Nat) : (zigzagFrom n up cols).length = 2 * n * cols.length := by
  induction cols generalizing up with
  | nil => rfl
  | cons c cols ih =>
    rw [zigzagFrom, List.length_append, pairCells_length, ih, List.length_cons]
    ring

/-- Pair `q` takes its cells in order, in the first direction when `q` is even (R231). -/
theorem zigzagFrom_getElem? {n q t col : Nat} {up : Bool} {cols : List Nat} (hq : cols[q]? = some col) (ht : t < 2 * n) :
    (zigzagFrom n up cols)[2 * n * q + t]? = (pairCells n col (up == (q % 2 == 0)))[t]? := by
  induction cols generalizing q up with
  | nil => simp at hq
  | cons c cols ih =>
    cases q with
    | zero =>
      obtain rfl : c = col := by simpa using hq
      rw [zigzagFrom, List.getElem?_append_left (by rw [pairCells_length]; omega), Nat.mul_zero, Nat.zero_add]
      simp
    | succ q =>
      have hturn : (up == ((q + 1) % 2 == 0)) = ((!up) == (q % 2 == 0)) := by
        rcases Nat.mod_two_eq_zero_or_one q with h | h <;> cases up <;> simp [h, Nat.add_mod]
      rw [zigzagFrom, List.getElem?_append_right (by rw [pairCells_length, Nat.mul_succ]; omega), pairCells_length, hturn,
        ← ih (q := q) hq]
      congr 1
      rw [Nat.mul_succ]
      omega

theorem zigzag_length (v : Nat) : (zigzag (sideOf v)).length = 2 * sideOf v * (2 * v + 8) := by
  rw [zigzag, zigzagFrom_length, pairColumns_sideOf, List.length_reverse, List.length_map, List.length_range]

/-- Pair `q` from the right, upward when `q` is even, and its cell `t` (R231). -/
theorem zigzag_getElem? {v q t : Nat} (hq : q < 2 * v + 8) (ht : t < 2 * sideOf v) :
    (zigzag (sideOf v))[2 * sideOf v * q + t]? =
      some (if q % 2 = 0 then sideOf v - 1 - t / 2 else t / 2,
        (if 8 ≤ sideOf v - 1 - 2 * q then sideOf v - 1 - 2 * q else sideOf v - 2 - 2 * q) - t % 2) := by
  have hcol : (pairColumns (sideOf v) (sideOf v - 1))[q]? =
      some (if 8 ≤ sideOf v - 1 - 2 * q then sideOf v - 1 - 2 * q else sideOf v - 2 - 2 * q) := by
    rw [pairColumns_sideOf, List.getElem?_reverse (by simpa using hq), List.length_map, List.length_range, List.getElem?_map,
      List.getElem?_range (by omega), Option.map_some, rightColumn, sideOf]
    congr 1
    split_ifs <;> omega
  rw [zigzag, zigzagFrom_getElem? hcol ht, pairCells_getElem? _ _ ht]
  simp

/-- Every cell of the traversal has its pair and its place in it (R231). -/
theorem zigzag_getElem?_eq_some {v k : Nat} {p : Nat × Nat} (h : (zigzag (sideOf v))[k]? = some p) :
    ∃ q t, q < 2 * v + 8 ∧ t < 2 * sideOf v ∧ k = 2 * sideOf v * q + t := by
  obtain ⟨hk, -⟩ := List.getElem?_eq_some_iff.1 h
  rw [zigzag_length] at hk
  exact ⟨k / (2 * sideOf v), k % (2 * sideOf v), Nat.div_lt_of_lt_mul hk, Nat.mod_lt _ (by rw [sideOf]; omega),
    (Nat.div_add_mod _ _).symm⟩

theorem mem_pairCells {n col : Nat} {up : Bool} {p : Nat × Nat} :
    p ∈ pairCells n col up ↔ p.1 < n ∧ (p.2 = col ∨ p.2 = col - 1) := by
  obtain ⟨r, c⟩ := p
  simp only [pairCells, List.mem_flatMap, List.mem_range, List.mem_cons, List.not_mem_nil, or_false, Prod.mk.injEq, ← and_or_left]
  constructor
  · rintro ⟨k, hk, rfl, hcol⟩
    exact ⟨by split <;> omega, hcol⟩
  · rintro ⟨hr, hcol⟩
    exact ⟨if up then n - 1 - r else r, by split <;> omega, by cases up <;> simp; omega, hcol⟩

theorem mem_zigzagFrom {n : Nat} {up : Bool} {cols : List Nat} {p : Nat × Nat} :
    p ∈ zigzagFrom n up cols ↔ ∃ col ∈ cols, p.1 < n ∧ (p.2 = col ∨ p.2 = col - 1) := by
  induction cols generalizing up with
  | nil => simp [zigzagFrom]
  | cons c cols ih => rw [zigzagFrom, List.mem_append, mem_pairCells, ih, List.exists_mem_cons_iff]

/-- The traversal visits exactly the cells of the grid outside column 6 (R231). -/
theorem mem_zigzag {v : Nat} {p : Nat × Nat} : p ∈ zigzag (sideOf v) ↔ p.1 < sideOf v ∧ p.2 < sideOf v ∧ p.2 ≠ 6 := by
  simp only [zigzag, mem_zigzagFrom, pairColumns_sideOf, List.mem_reverse, List.mem_map, List.mem_range, exists_exists_and_eq_and,
    rightColumn]
  constructor
  · rintro ⟨i, hi, hr, hcol⟩
    rw [sideOf] at *
    split at hcol <;> omega
  · rintro ⟨hr, hc, h6⟩
    refine ⟨if p.2 < 6 then p.2 / 2 else (p.2 - 1) / 2, ?_, hr, ?_⟩ <;> rw [sideOf] at * <;> split_ifs <;> omega

/-- The traversal visits no cell twice (R231). -/
theorem zigzag_nodup (v : Nat) : (zigzag (sideOf v)).Nodup := by
  rw [List.nodup_iff_getElem?_ne_getElem?]
  intro k k' hlt hk' heq
  obtain ⟨q, t, hq, ht, rfl⟩ := zigzag_getElem?_eq_some (heq.trans (List.getElem?_eq_getElem hk'))
  obtain ⟨q', t', hq', ht', rfl⟩ := zigzag_getElem?_eq_some (List.getElem?_eq_getElem hk')
  rw [zigzag_getElem? hq ht, zigzag_getElem? hq' ht', Option.some.injEq, Prod.mk.injEq] at heq
  obtain ⟨hrow, hcol⟩ := heq
  have hpair : q = q' ∧ t % 2 = t' % 2 := by
    clear hrow hlt hk'
    rw [sideOf] at *
    split_ifs at hcol <;> omega
  obtain ⟨rfl, hside⟩ := hpair
  have : t = t' := by
    clear hcol hlt hk'
    split_ifs at hrow <;> omega
  omega

/-! # The mapper (R232 to R234) -/

theorem codewordBit_eq_getLsbD (cw : List Byte) (k : Nat) :
    codewordBit cw k = if k / 8 < cw.length then (cw.getD (k / 8) 0).getLsbD (7 - k % 8) else false := by
  rw [codewordBit, BitVec.testBit_toNat]
  split
  · rfl
  · next hpast =>
    rw [List.getD_eq_default _ _ (Nat.le_of_not_lt hpast)]
    exact BitVec.getLsbD_zero

/-- The masked bits that the mapper writes into cells left unset, the first of them bit `k` (R233). -/
def dataWrites (cw : List Byte) (m : Fin 8) (k : Nat) (cells : List (Nat × Nat)) : List (Nat × Nat × Module) :=
  (cells.zipIdx k).map (fun p => (p.1.1, p.1.2, Module.ofBool (codewordBit cw p.2 != maskFn m p.1.1 p.1.2)))

theorem mem_dataWrites {cw : List Byte} {m : Fin 8} {cells : List (Nat × Nat)} {r c : Nat} {x : Module} :
    (r, c, x) ∈ dataWrites cw m 0 cells ↔
      ∃ k, cells[k]? = some (r, c) ∧ x = Module.ofBool (codewordBit cw k != maskFn m r c) := by
  simp only [dataWrites, List.mem_map, Prod.exists, List.mk_mem_zipIdx_iff_getElem?, Prod.mk.injEq]
  constructor
  · rintro ⟨_, _, k, hk, rfl, rfl, rfl⟩
    exact ⟨k, hk, rfl⟩
  · rintro ⟨k, hk, rfl⟩
    exact ⟨r, c, k, hk, rfl, rfl, rfl⟩

theorem dataWrites_coloured (cw : List Byte) (m : Fin 8) (k : Nat) (cells : List (Nat × Nat)) :
    ∀ w ∈ dataWrites cw m k cells, w.2.2 ≠ .unset := by
  rintro _ hw
  obtain ⟨p, -, rfl⟩ := List.mem_map.1 hw
  exact Module.ofBool_ne_unset _

theorem names_dataWrites {cw : List Byte} {m : Fin 8} {cells : List (Nat × Nat)} {r c : Nat} :
    Names (dataWrites cw m 0 cells) r c ↔ (r, c) ∈ cells := by
  constructor
  · rintro ⟨x, hx⟩
    obtain ⟨k, hk, -⟩ := mem_dataWrites.1 hx
    exact List.mem_of_getElem? hk
  · intro h
    obtain ⟨k, hk⟩ := List.mem_iff_getElem?.1 h
    exact ⟨_, mem_dataWrites.2 ⟨k, hk, rfl⟩⟩

/-- Along cells that do not repeat, the mapper writes the masked bits into those the grid leaves unset (R231, R233). -/
theorem mapCells_eq_write {cw : List Byte} {m : Fin 8} {n k : Nat} {g : Grid} (hg : g.Square n) {cells : List (Nat × Nat)}
    (hcells : cells.Nodup) (hin : ∀ p ∈ cells, p.1 < n ∧ p.2 < n) :
    mapCells cw m g k cells = g.write (dataWrites cw m k (cells.filter (fun p => g.cell p.1 p.2 == .unset))) := by
  induction cells generalizing g k with
  | nil => rfl
  | cons p cells ih =>
    obtain ⟨r, c⟩ := p
    obtain ⟨hnew, hcells⟩ := List.nodup_cons.1 hcells
    have hin := (List.forall_mem_cons.1 hin).2
    rw [mapCells, List.filter_cons]
    split
    · next hunset =>
      have hkeep : cells.filter (fun p => (g.setCell r c (Module.ofBool (codewordBit cw k != maskFn m r c))).cell p.1 p.2 == .unset) =
          cells.filter (fun p => g.cell p.1 p.2 == .unset) := List.filter_congr fun p hp => by
        have hother : ¬ (r = p.1 ∧ c = p.2) := by
          rintro ⟨rfl, rfl⟩
          exact hnew hp
        rw [Grid.cell_setCell hg (hin p hp).1 (hin p hp).2, if_neg hother]
      rw [ih (hg.setCell r c _) hcells hin, hkeep, if_pos (beq_iff_eq.2 hunset)]
      rfl
    · next hset => rw [ih hg hcells hin, if_neg (mt beq_iff_eq.1 hset)]

/-! # The render (R234) -/

theorem structural_square {v : Nat} (h1 : 1 ≤ v) (h40 : v ≤ 40) (lvl : Level) (m : Fin 8) (test : Bool) :
    (structural v lvl m test).Square (sideOf v) := by
  rw [structural_eq_write h1 h40]
  exact (((Grid.blank_square _).write _).placeTiming).write _

/-- The cells the structural patterns leave unset, in the order of the traversal (R231). -/
def dataCells (v : Nat) (lvl : Level) (m : Fin 8) (test : Bool) : List (Nat × Nat) :=
  (zigzag (sideOf v)).filter (fun p => (structural v lvl m test).cell p.1 p.2 == .unset)

section
variable {v : Nat} (h1 : 1 ≤ v) (h40 : v ≤ 40) {lvl : Level} {cw : List Byte} {m : Fin 8} {test : Bool} {r c : Nat}
include h1 h40

theorem render_eq_write :
    render v lvl cw m test = (structural v lvl m test).write (dataWrites cw m 0 (dataCells v lvl m test)) :=
  mapCells_eq_write (structural_square h1 h40 lvl m test) (zigzag_nodup v) fun _ hp =>
    have hp := mem_zigzag.1 hp
    ⟨hp.1, hp.2.1⟩

theorem render_square : (render v lvl cw m test).Square (sideOf v) :=
  render_eq_write h1 h40 ▸ (structural_square h1 h40 lvl m test).write _

/-- Column 6 holds the left finder patterns, the vertical timing pattern and format cells only (R202, R205, R207). -/
theorem structural_column_six_ne_unset (hr : r < sideOf v) : (structural v lvl m test).cell r 6 ≠ .unset := by
  have hn := sideOf_ge h1
  refine (any_structuralRects_iff h1 h40 hr (by omega)).1 ?_
  rw [structuralRects, List.any_append, List.any_append, Bool.or_eq_true, Bool.or_eq_true]
  refine .inl (.inl ((any_frameRects_iff hn hr (by omega)).2 ?_))
  rw [onTiming_iff, InFinder, InFormat]
  omega

/-- The mapper visits every cell that the structural patterns leave unset (R231). -/
theorem mem_dataCells_iff (hr : r < sideOf v) (hc : c < sideOf v) :
    (r, c) ∈ dataCells v lvl m test ↔ (structural v lvl m test).cell r c = .unset := by
  rw [dataCells, List.mem_filter, beq_iff_eq, mem_zigzag, and_iff_right_iff_imp]
  refine fun hunset => ⟨hr, hc, ?_⟩
  rintro rfl
  exact structural_column_six_ne_unset h1 h40 hr hunset

theorem render_cell_ne_unset (hr : r < sideOf v) (hc : c < sideOf v) : (render v lvl cw m test).cell r c ≠ .unset := by
  rw [render_eq_write h1 h40, ne_eq,
    Grid.cell_write_eq_unset_iff (structural_square h1 h40 lvl m test) hr hc (dataWrites_coloured cw m 0 _), names_dataWrites,
    mem_dataCells_iff h1 h40 hr hc]
  exact and_not_self

/-- A structural cell is never masked (R233). -/
theorem render_cell_of_structural (hr : r < sideOf v) (hc : c < sideOf v) (hset : (structural v lvl m test).cell r c ≠ .unset) :
    (render v lvl cw m test).cell r c = (structural v lvl m test).cell r c := by
  rw [render_eq_write h1 h40]
  refine Grid.cell_write_of_not_names (structural_square h1 h40 lvl m test) hr hc ?_
  rwa [names_dataWrites, mem_dataCells_iff h1 h40 hr hc]

/-- The `k`-th cell left unset holds codeword bit `k`, masked (R232, R233). -/
theorem render_cell_of_data {k : Nat} (hk : (dataCells v lvl m test)[k]? = some (r, c)) :
    (render v lvl cw m test).cell r c = Module.ofBool (codewordBit cw k != maskFn m r c) := by
  obtain ⟨hr, hc, -⟩ := mem_zigzag.1 (List.mem_filter.1 (List.mem_of_getElem? hk)).1
  rw [render_eq_write h1 h40]
  refine Grid.cell_write_eq (structural_square h1 h40 lvl m test) hr hc (.inr (mem_dataWrites.2 ⟨k, hk, rfl⟩)) fun x hx => ?_
  obtain ⟨k', hk', rfl⟩ := mem_dataWrites.1 hx
  have hnodup : (dataCells v lvl m test).Nodup := (zigzag_nodup v).filter _
  rw [(List.getElem?_inj (List.getElem?_eq_some_iff.1 hk).1 hnodup).1 (hk.trans hk'.symm)]

end

/-- Settles O48: the mapper is one list of writes, of the masked bits into the cells the patterns leave unset. -/
theorem renderSetsEveryCellAndKeepsPatterns : Obligations.RenderSetsEveryCellAndKeepsPatterns := by
  intro v lvl cw m test h1 h40
  obtain ⟨hlength, hrows⟩ := render_square h1 h40 (lvl := lvl) (cw := cw) (m := m) (test := test)
  refine ⟨hlength, hrows, fun r c hr hc => ⟨render_cell_ne_unset h1 h40 hr hc, render_cell_of_structural h1 h40 hr hc⟩,
    fun k r c hk => ?_, rfl, zigzag_length v, fun q t hq ht => zigzag_getElem? hq ht⟩
  rw [render_cell_of_data h1 h40 hk, Module.ofBool_eq_ite, codewordBit_eq_getLsbD]
  simp only [bne_iff_ne]

end Sys2Proof.Machine

namespace Sys2Proof.Machine

/-! # CREATE and IS_DARK (R260, R263) -/

/-- CREATE of a version above 40 is DOMAIN (R260). -/
theorem execCreate_of_version {s : State} (h : 40 < s.arg0) : execCreate s = raise .domain s := if_pos h

/-- CREATE of a version and a code that names no level is INVALID_LEVEL (R260). -/
theorem execCreate_of_no_level {s : State} (hv : s.arg0 ≤ 40) (h : 3 < s.arg1) : execCreate s = raise .invalidLevel s := by
  rw [execCreate, vmax_eq, if_neg (Nat.not_lt.2 hv), Level.ofCode?_eq_none h]

/-- CREATE of a version and a level starts a new symbol (R260). -/
theorem execCreate_of_level {s : State} {lvl : Level} (hv : s.arg0 ≤ 40) (hlvl : s.arg1 = lvl.code) :
    execCreate s = succeed (s.newSymbol s.arg0 lvl) Quad.zero := by
  rw [execCreate, vmax_eq, if_neg (Nat.not_lt.2 hv), hlvl, Level.ofCode?_code]

/-- Settles O53: the tests of the version and of the level in their order, and the writes past them. -/
theorem createStartsNewSymbol : Obligations.CreateStartsNewSymbol := fun _ =>
  ⟨fun h => endsWith_of_raise (execCreate_of_version h), fun hv h => endsWith_of_raise (execCreate_of_no_level hv h),
    fun _ hv hlvl => execCreate_of_level hv hlvl⟩

/-- IS_DARK outside MADE or outside the grid is OUT_OF_BOUNDS (R263). -/
theorem execIsDark_of_outside {s : State} (h : s.symState ≠ .made ∨ s.moduleCount ≤ s.arg0 ∨ s.moduleCount ≤ s.arg1) :
    execIsDark s = raise .outOfBounds s := if_pos h

/-- IS_DARK of a cell of the made symbol answers whether it is dark (R263). -/
theorem execIsDark_of_cell {s : State} (hmade : s.symState = .made) (h0 : s.arg0 < s.moduleCount)
    (h1 : s.arg1 < s.moduleCount) :
    execIsDark s = succeed s (Quad.one (word (if s.grid.cell s.arg0 s.arg1 = .dark then 1 else 0))) := by
  refine if_neg ?_
  rw [not_or, not_or, not_not, Nat.not_le, Nat.not_le]
  exact ⟨hmade, h0, h1⟩

/-- Settles O55: the test of the state and the coordinates, and the colour of a cell past it. -/
theorem isDarkReadsGrid : Obligations.IsDarkReadsGrid := by
  intro s
  refine ⟨fun h => endsWith_of_raise (execIsDark_of_outside h), fun hmade h0 h1 => ?_⟩
  have hexec := execIsDark_of_cell hmade h0 h1
  refine ⟨fun hdark => answers_of_succeed (hexec.trans ?_), fun hlight => answers_of_succeed (hexec.trans ?_)⟩
  · rw [State.arg0, State.arg1, if_pos hdark]
    rfl
  · rw [State.arg0, State.arg1, if_neg hlight]
    rfl

end Sys2Proof.Machine

namespace Sys2Proof.Machine

/-! # MAKE (R190, R261, R262) -/

/-! ## The assembly by whether the segments fit -/

/-- Every version from 1 to 40 has a plan at every level (R131). -/
theorem exists_plan? {v : Nat} (lvl : Level) (h1 : 1 ≤ v) (h40 : v ≤ 40) : ∃ p, plan? v lvl = some p := by
  obtain ⟨e, he⟩ := exists_ecRow? lvl h1 h40
  exact ⟨e.blocks, plan?_eq_some_iff.2 ⟨e, he, rfl⟩⟩

/-- Segments that fit are assembled (R182, R190). -/
theorem assemble_of_fits {segs : List Segment} {v : Nat} {lvl : Level} (h : fits segs v lvl = true) :
    ∃ cw, assemble segs v lvl = .ok (cw, packedBits segs v) := by
  obtain ⟨p, hp, hbits⟩ := fits_iff.1 h
  refine ⟨codewords p (dataStream (pack segs v) (dataTotal p)), ?_⟩
  simp only [assemble, hp, pack_length, if_neg (Nat.not_lt.2 hbits)]

/-- Segments that do not fit a version of the table are CAPACITY (R182, R190). -/
theorem assemble_of_not_fits {segs : List Segment} {v : Nat} {lvl : Level} (h1 : 1 ≤ v) (h40 : v ≤ 40)
    (h : fits segs v lvl = false) : assemble segs v lvl = .error .capacity := by
  obtain ⟨p, hp⟩ := exists_plan? lvl h1 h40
  have hbits : 8 * dataTotal p < packedBits segs v := by
    by_contra hle
    exact Bool.eq_false_iff.1 h (fits_iff.2 ⟨p, hp, Nat.not_lt.1 hle⟩)
  simp only [assemble, hp, pack_length, if_pos hbits]

/-- The assembly fails with an error other than OK (R190). -/
theorem assemble_ne_error_ok (segs : List Segment) (v : Nat) (lvl : Level) : assemble segs v lvl ≠ .error .ok := by
  unfold assemble
  split
  · exact nofun
  · dsimp only
    split <;> exact nofun

/-- No segment fits every version of the table. -/
theorem fits_nil {v : Nat} (lvl : Level) (h1 : 1 ≤ v) (h40 : v ≤ 40) : fits [] v lvl = true := by
  obtain ⟨p, hp⟩ := exists_plan? lvl h1 h40
  exact fits_iff.2 ⟨p, hp, Nat.zero_le _⟩

/-! ## The symbol found -/

/-- The version of MAKE: the one asked for, or the first that fits (R261). -/
theorem resolveVersion?_eq_some_iff {req v : Nat} {segs : List Segment} {lvl : Level} :
    resolveVersion? req segs lvl = some v ↔ req ≠ 0 ∧ v = req ∨ req = 0 ∧ selectVersion? segs lvl = some v := by
  by_cases h : req = 0
  · simp [resolveVersion?, h]
  · simp [resolveVersion?, h, eq_comm]

/-- MAKE finds the symbol of the assembled codewords when the segments fit its version (R261). -/
theorem makeSymbol_of_fits {req v : Nat} {segs : List Segment} {lvl : Level} (hv : resolveVersion? req segs lvl = some v)
    (h : fits segs v lvl = true) :
    ∃ cw, assemble segs v lvl = .ok (cw, packedBits segs v) ∧
      makeSymbol req lvl segs = .ok (buildSymbol v lvl cw (packedBits segs v)) := by
  obtain ⟨cw, hcw⟩ := assemble_of_fits h
  exact ⟨cw, hcw, by rw [makeSymbol, hv]; simp only [hcw]⟩

/-- MAKE finds no symbol when the segments exceed the version asked for, or fit none (R261). -/
theorem makeSymbol_of_not_fits {req : Nat} {segs : List Segment} {lvl : Level} (h40 : req ≤ 40)
    (h : req ≠ 0 ∧ fits segs req lvl = false ∨ req = 0 ∧ selectVersion? segs lvl = none) :
    makeSymbol req lvl segs = .error .capacity := by
  rcases h with ⟨hreq, hfits⟩ | ⟨rfl, hnone⟩
  · have hv := resolveVersion?_eq_some_iff (segs := segs) (lvl := lvl).2 (.inl ⟨hreq, rfl⟩)
    rw [makeSymbol, hv]
    simp only [assemble_of_not_fits (Nat.one_le_iff_ne_zero.2 hreq) h40 hfits]
  · rw [makeSymbol, resolveVersion?, if_neg (by simp), hnone]

/-- MAKE fails with an error other than OK (R261). -/
theorem makeSymbol_ne_error_ok (req : Nat) (lvl : Level) (segs : List Segment) : makeSymbol req lvl segs ≠ .error .ok := by
  unfold makeSymbol
  split
  · exact nofun
  · next v _ =>
    split
    · next e he =>
      rintro ⟨⟩
      exact assemble_ne_error_ok segs v lvl he
    · exact nofun

/-- The mask of a symbol is the best of its trials by `Q` (R245). -/
theorem buildSymbol_mask (v : Nat) (lvl : Level) (cw : List Byte) (db : Nat) :
    (buildSymbol v lvl cw db).mask =
      bestMask (maskIndices.map (fun m => (m, (score (render v lvl cw m true) (sideOf v)).q (sideOf v)))) := rfl

/-! ## The command -/

/-- The error of a raise is what ERR reports (R284). -/
theorem err_of_raise {e : ErrCode} {s t : State} (h : raise e s = .next t) : t.err = e := by
  rw [raise_eq_next] at h
  exact h ▸ rfl

/-- MAKE with a symbol found commits it and answers its version, mask, module count and bits (R261). -/
theorem execMake_of_symbol {s : State} {x : Symbol} (h : makeSymbol s.versionReq s.level s.segs = .ok x) :
    execMake s =
      succeed (s.commit x) ⟨word x.version, word x.mask.val, word (sideOf x.version), word x.dataBits⟩ := by
  rw [execMake, h]

theorem execMake_of_error {s : State} {e : ErrCode} (h : makeSymbol s.versionReq s.level s.segs = .error e) :
    execMake s = raise e s := by
  rw [execMake, h]

/-- A MAKE that ends well has found a symbol and committed it (R261). -/
theorem execMake_eq_ok {s t : State} (h : execMake s = .next t) (hok : t.err = .ok) :
    ∃ x, makeSymbol s.versionReq s.level s.segs = .ok x ∧
      t = (s.commit x).complete .ok ⟨word x.version, word x.mask.val, word (sideOf x.version), word x.dataBits⟩ := by
  cases hx : makeSymbol s.versionReq s.level s.segs with
  | ok x =>
    rw [execMake_of_symbol hx, succeed_eq_next] at h
    exact ⟨x, rfl, h.symm⟩
  | error e =>
    obtain rfl : e = .ok := (err_of_raise ((execMake_of_error hx).symm.trans h)).symm.trans hok
    exact absurd hx (makeSymbol_ne_error_ok _ _ _)

/-- Settles O54: the assembly succeeds exactly where the segments fit, and MAKE commits the symbol built from it. -/
theorem makeBuildsSymbolOrReportsCapacity : Obligations.MakeBuildsSymbolOrReportsCapacity := by
  intro s h40
  refine ⟨fun h => endsWith_of_raise (execMake_of_error (makeSymbol_of_not_fits h40 h)), fun v hv hfits => ?_⟩
  obtain ⟨cw, hcw, hx⟩ := makeSymbol_of_fits (resolveVersion?_eq_some_iff.2 hv) hfits
  exact ⟨cw, _, hcw, buildSymbol_mask v s.level cw _, execMake_of_symbol hx⟩

end Sys2Proof.Machine

namespace Sys2Proof.Machine

/-! # The symbol state (R265, R266) -/

/-! ## MAKE again -/

/-- What RENDER answers differs from the state before it in the grid, FINAL, RES and STATUS alone (R246, R284). -/
theorem execRender_frame {s u : State} (h : exec .render s = .next u) :
    u = { s with grid := u.grid, final := u.final, res := u.res, err := u.err, running := none, done := true } := by
  rcases exec_cases h with ⟨e, rfl⟩ | ⟨v, q, hv, rfl⟩
  · rfl
  · cases hv with
    | nothing hi => cases hi
    | render => rfl

/-- Settles O12: MAKE reads VERSION_REQ, LEVEL and SEGS alone, which neither MAKE nor RENDER writes, and it writes again all
that RENDER wrote. -/
theorem makeIsRepeatableAndUndoesRender : Obligations.MakeIsRepeatableAndUndoesRender := by
  intro s t h hok
  obtain ⟨x, hx, rfl⟩ := execMake_eq_ok h hok
  refine ⟨execMake_of_symbol hx, fun u hu => ?_⟩
  rw [execRender_frame hu]
  exact execMake_of_symbol hx

/-! ## The transitions -/

/-- MAKE finds a symbol in EMPTY, where there is no segment, and in MADE, where it found one before (R265). -/
theorem State.Inv.exists_makeSymbol {s : State} (h : s.Inv) (hs : s.symState ≠ .pending) :
    ∃ x, makeSymbol s.versionReq s.level s.segs = .ok x := by
  cases hst : s.symState with
  | pending => exact absurd hst hs
  | made =>
    obtain ⟨x, hx, -⟩ := h.made hst
    exact ⟨x, hx⟩
  | empty =>
    rw [h.empty hst]
    obtain ⟨v, hv, h1, h40⟩ : ∃ v, resolveVersion? s.versionReq [] s.level = some v ∧ 1 ≤ v ∧ v ≤ 40 := by
      rcases Nat.eq_zero_or_pos s.versionReq with hreq | hreq
      · have hfirst : selectVersion? [] s.level = some 1 :=
          selectVersion?_eq_some_iff.2 ⟨le_rfl, by decide, fits_nil _ le_rfl (by decide), by omega⟩
        exact ⟨1, resolveVersion?_eq_some_iff.2 (.inr ⟨hreq, hfirst⟩), le_rfl, by decide⟩
      · exact ⟨_, resolveVersion?_eq_some_iff.2 (.inl ⟨hreq.ne', rfl⟩), hreq, h.versionReq⟩
    obtain ⟨cw, -, hx⟩ := makeSymbol_of_fits hv (fits_nil _ h1 h40)
    exact ⟨_, hx⟩

/-- A CREATE that ends well leaves EMPTY (R265). -/
theorem execCreate_transition {s t : State} (h : execCreate s = .next t) (hok : t.err = .ok) :
    t.symState = .empty ∧ t.final = false := by
  rcases Nat.lt_or_ge 40 s.arg0 with hv | hv
  · rw [execCreate_of_version hv] at h
    exact nomatch (err_of_raise h).symm.trans hok
  rcases Nat.lt_or_ge 3 s.arg1 with hcode | hcode
  · rw [execCreate_of_no_level hv hcode] at h
    exact nomatch (err_of_raise h).symm.trans hok
  · obtain ⟨lvl, hlvl⟩ := exists_level_code hcode
    rw [execCreate_of_level hv hlvl, succeed_eq_next] at h
    subst h
    exact ⟨rfl, rfl⟩

/-- An ADD_DATA that ends well leaves PENDING (R265). -/
theorem execAddData_transition {s t : State} (h : execAddData s = .next t) (hok : t.err = .ok) :
    t.symState = .pending ∧ t.final = false := by
  cases hm : Mode.ofCode? s.arg0 with
  | none =>
    rw [execAddData, hm] at h
    exact nomatch (err_of_raise h).symm.trans hok
  | some m =>
    rw [execAddData_of_mode (Mode.ofCode?_eq_some_iff.1 hm)] at h
    split_ifs at h
    · exact nomatch (err_of_raise h).symm.trans hok
    · exact nomatch (err_of_raise h).symm.trans hok
    · rw [succeed_eq_next] at h
      subst h
      exact ⟨rfl, rfl⟩

/-- A MAKE that ends well leaves MADE with FINAL = 1 (R265). -/
theorem execMake_transition {s t : State} (h : execMake s = .next t) (hok : t.err = .ok) :
    t.symState = .made ∧ t.final = true := by
  obtain ⟨x, -, rfl⟩ := execMake_eq_ok h hok
  exact ⟨rfl, rfl⟩

/-- A RENDER that ends well stays in MADE with FINAL = 0 (R265). -/
theorem execRender_transition {s t : State} (h : execRender s = .next t) (hok : t.err = .ok) :
    t.symState = .made ∧ t.final = false := by
  by_cases hmade : s.symState = .made
  · by_cases hargs : 7 < s.arg0 ∨ 1 < s.arg1
    · rw [execRender_of_outOfRange hmade hargs] at h
      exact nomatch (err_of_raise h).symm.trans hok
    · rw [not_or, Nat.not_lt, Nat.not_lt] at hargs
      obtain ⟨hmask, htest⟩ := hargs
      rw [execRender_of_mask (m := ⟨s.arg0, Nat.lt_succ_of_le hmask⟩) hmade rfl htest, succeed_eq_next] at h
      subst h
      exact ⟨hmade, rfl⟩
  · rw [execRender_of_not_made hmade] at h
    exact nomatch (err_of_raise h).symm.trans hok

/-- The other commands write neither STATE nor FINAL (R265). -/
theorem Writes.keepsSymbolState {s u : State} {i : Instr} (h : Writes s i u) (hcreate : i ≠ .create) (hadd : i ≠ .addData)
    (hmake : i ≠ .make) (hrender : i ≠ .render) : u.symState = s.symState ∧ u.final = s.final := by
  cases h
  case create => exact absurd rfl hcreate
  case addData => exact absurd rfl hadd
  case make => exact absurd rfl hmake
  case render => exact absurd rfl hrender
  case polyConstruct | polyMove =>
    rw [State.writeWin_eq]
    exact ⟨rfl, rfl⟩
  all_goals exact ⟨rfl, rfl⟩

/-- RENDER and PENALTY outside MADE end with STATE (R265). -/
theorem err_of_not_made {i : Instr} {s t : State} (h : exec i s = .next t) (hs : s.symState ≠ .made)
    (hi : i = .render ∨ i = .penalty) : t.err = .state := by
  have hraise : exec i s = raise .state s := by
    rcases hi with rfl | rfl
    · exact execRender_of_not_made hs
    · exact execPenalty_of_not_made hs
  exact err_of_raise (hraise.symm.trans h)

/-- Settles O11: an error writes neither, the four commands of the table leave their row's values, and the others' writes
leave both. -/
theorem symbolStateTransitions : Obligations.SymbolStateTransitions := by
  refine ⟨fun s hinv hs => ?_, fun i s t h => ⟨fun herr => ?_, err_of_not_made h, ?_, fun hok => ⟨?_, ?_, ?_, ?_, ?_⟩⟩⟩
  · obtain ⟨x, hx⟩ := hinv.exists_makeSymbol hs
    exact ⟨_, execMake_of_symbol hx, rfl⟩
  · rcases exec_cases h with ⟨e, rfl⟩ | ⟨u, q, -, rfl⟩
    · exact ⟨rfl, rfl⟩
    · exact absurd rfl herr
  · rintro hs rfl
    exact err_of_raise ((execIsDark_of_outside (.inl hs)).symm.trans h)
  · rintro rfl
    exact execCreate_transition h hok
  · rintro rfl
    exact execAddData_transition h hok
  · rintro rfl
    exact execMake_transition h hok
  · rintro rfl
    exact execRender_transition h hok
  · intro hcreate hadd hmake hrender
    rcases exec_cases h with ⟨e, rfl⟩ | ⟨u, q, hu, rfl⟩
    · exact ⟨rfl, rfl⟩
    · exact hu.keepsSymbolState hcreate hadd hmake hrender

end Sys2Proof.Machine

namespace Sys2Proof.Machine

/-! # Completion, the interrupt and the host's writes to a busy block (R283, R284, R287, R320) -/

/-- Settles O9: a command's two ends are both completions, and the one with an error completes the state before it. -/
theorem everyCommandCompletesAndErrorsChangeNothing : Obligations.EveryCommandCompletesAndErrorsChangeNothing := by
  intro i s
  have hends := exec_ends i s
  generalize exec i s = r at hends ⊢
  cases hends with
  | raised e => exact ⟨_, rfl, rfl, rfl, fun _ => rfl⟩
  | succeeded q hu => exact ⟨_, rfl, rfl, rfl, fun herr => absurd rfl herr⟩

/-! ## The effect of a CTRL write -/

section
variable {v : Word}

theorem State.writeCtrl_of_reset (s : State) (h : v.getLsbD 0 = true) : s.writeCtrl v = s.afterReset := if_pos h

theorem State.writeCtrl_of_no_reset (s : State) (h : v.getLsbD 0 = false) :
    s.writeCtrl v = { s with irqEn := v.getLsbD 1 } :=
  if_neg (ne_true_of_eq_false h)

end

/-! ## The interrupt -/

theorem State.irq_of_not_done {s : State} (h : s.done = false) : s.irq = false := by
  rw [State.irq, h, Bool.false_and]

theorem State.irq_of_disabled {s : State} (h : s.irqEn = false) : s.irq = false := by
  rw [State.irq, h, Bool.and_false]

/-- Every completion sets DONE (R283). -/
theorem done_of_exec {i : Instr} {s t : State} (h : exec i s = .next t) : t.done = true := by
  rcases exec_cases h with ⟨e, rfl⟩ | ⟨u, q, -, rfl⟩
  · rfl
  · rfl

/-- No command writes IRQ_EN (R23, R287). -/
theorem irqEn_of_exec {i : Instr} {s t : State} (h : exec i s = .next t) : t.irqEn = s.irqEn := by
  obtain ⟨-, hirqEn, -⟩ := noCommandWritesOperandsOrHostState i s t h
  exact hirqEn

/-- Settles O60: a completion sets DONE and keeps IRQ_EN, and each of the other operations clears one of the two. -/
theorem irqFollowsDoneAndEnable : Obligations.IrqFollowsDoneAndEnable := by
  refine fun s => ⟨rfl, fun i t h => ?completion, fun w => ?accept, fun v hv => ?status, fun v hv => ?ctrl, ?reset⟩
  case completion => rw [State.irq, done_of_exec h, irqEn_of_exec h, Bool.true_and]
  case accept => exact State.irq_of_not_done (s.accept_done w)
  case status =>
    refine State.irq_of_not_done ?_
    rw [State.writeStatus_done, wordBit_eq_getLsbD, hv, Bool.not_true, Bool.and_false]
  case ctrl =>
    cases hreset : v.getLsbD 0 with
    | true =>
      rw [s.writeCtrl_of_reset hreset]
      exact State.irq_of_not_done s.afterReset_done
    | false =>
      rw [s.writeCtrl_of_no_reset hreset]
      exact State.irq_of_disabled hv
  case reset => exact State.irq_of_not_done s.afterReset_done

/-! ## The host's writes to a busy block -/

/-- A busy block ignores a write of CMD, ARG, SEG_FIFO, a window length or a window cell, but for CMD_OVF (R320). -/
theorem State.busWrite_of_busy {s : State} {c : Running} {a : Nat} (v : Word) (hc : s.running = some c)
    (hreg : regAt a = .cmd ∨ (∃ i, regAt a = .arg i) ∨ regAt a = .segFifo ∨ (∃ w, regAt a = .winLen w) ∨
      ∃ w i, regAt a = .winCell w i) : s.busWrite a v = s.overrun := by
  have hbusy : s.busy = true := by rw [State.busy, hc, Option.isSome_some]
  rcases hreg with hreg | ⟨i, hreg⟩ | hreg | ⟨w, hreg⟩ | ⟨w, i, hreg⟩ <;>
    simp only [State.busWrite, hreg, if_pos hbusy]

/-- A write that leaves the block busy is one of the command's cycles. -/
theorem step_write_busy {s u : State} {a : Offset} {v : Word} {rest : List HostEvent} {c : Running}
    (h : s.events = .write .word a v :: rest) (ha : a.toNat % 4 = 0)
    (hwrite : (s.withEvents rest).busWrite a.toNat v = u) (hu : u.running = some c) : CycleEnds c u (step s) := by
  rw [step_write h ha, hwrite]
  exact tick_cycleEnds hu

/-- Settles O56: but for the reset, which leaves the block idle, the cycle ends on the state the register's write leaves. -/
theorem busyWritesAreIgnored : Obligations.BusyWritesAreIgnored := by
  intro s a v rest c hc h ha
  have hc' : (s.withEvents rest).running = some c := hc
  refine ⟨fun hreg => ?operand, fun hreg => ?status, fun hreg hv => ?ctrl, fun hreg hv => ?reset,
    fun hcmd harg hfifo hlen hcell hstatus hctrl => ?readOnly⟩
  case operand => exact step_write_busy h ha (State.busWrite_of_busy v hc' hreg) hc
  case status => exact step_write_busy h ha (State.busWrite_status v hreg) hc
  case ctrl => exact step_write_busy h ha ((State.busWrite_ctrl v hreg).trans (State.writeCtrl_of_no_reset _ hv)) hc
  case reset =>
    have hwrite : (s.withEvents rest).busWrite a.toNat v = (s.withEvents rest).afterReset :=
      (State.busWrite_ctrl v hreg).trans (State.writeCtrl_of_reset _ hv)
    rw [step_write_idle h ha (by rw [hwrite, State.afterReset_running]), hwrite]
  case readOnly =>
    exact step_write_busy h ha (State.busWrite_of_readOnly v hcmd harg hfifo hlen hcell hstatus hctrl) hc

end Sys2Proof.Machine
